-- ==== Sys2Proof/Word.lean ====
section
/-! DEFINITION. The words of the machine and the two sizes of an attribute (`10_state.md` R20, R22, R29, R40). -/

namespace Sys2Proof

/-- A byte of memory or of the instruction stream (R50). -/
abbrev Byte := BitVec 8

/-- A selector, a `rel16`, a 16-bit register or offset (R29, R20). -/
abbrev Word16 := BitVec 16

/-- EIP, a general register, a linear or physical address (R20, R22, R50). -/
abbrev Word32 := BitVec 32

/-- The value of an operand-size or address-size attribute: 16 or 32 (R40, R41). -/
inductive Size where
  | w16
  | w32
  deriving DecidableEq, Repr

/-- "The other size", which a size override byte selects (R40, R41). -/
def Size.other : Size → Size
  | .w16 => .w32
  | .w32 => .w16

end Sys2Proof
end

