-- ==== Sys2Proof/Config.lean ====
section
/-! DEFINITION. The parameters of `00_scope.md` R5 that are fixed for the machine. The other parameters of R5 are
data: `LaunchState` and `Translate` are fields of the state, `EndAddress` is an argument in Safety.lean. -/

namespace Sys2Proof.Config

/-- `MAX_INSN_LEN`, the longest instruction the decoder accepts, in bytes (R5, R88, D21). -/
def maxInsnLen : Nat := 15

/-- The last offset of the "effective address space from 0 to 0FFFFH" of Real and V86 mode (R50, R55). -/
def realOffsetMax : Nat := 0xFFFF

/-- `COUNT_SEL`: which attribute of the instruction picks CX (16) or ECX (32) for opcode E3. The spec's default is
the address-size attribute (R5, R86, D4; log entry 7). -/
def countSel (_operandSize addressSize : Size) : Size := addressSize

end Sys2Proof.Config
end

