-- ==== Sys2Proof/Syntax.lean ====
section
/-! DEFINITION. The instructions of `opcode_table.json`, one constructor per row, with what their bytes hold after
decoding: prefix bytes (`30_encoding.md` R95, R96), displacements (R82, R83), long pointers (R84) and ModRM operands
(R90 to R94). A row that is an ASM386 synonym of another row (R104) is a constructor too; the decoder answers the row
without `alias_of` (log entry 20). -/

namespace Sys2Proof

/-- The general registers, in the order of their numbers 0 to 7 (R20). -/
inductive GReg where
  | eax | ecx | edx | ebx | esp | ebp | esi | edi
  deriving DecidableEq, Repr

/-- The names of the six segment registers (R29). -/
inductive SReg where
  | es | cs | ss | ds | fs | gs
  deriving DecidableEq, Repr

/-- The sixteen conditions of a flag-testing jump, in the order of `cc` = 0 to F (R85, R110). -/
inductive Cond where
  | o | no | b | ae | e | ne | be | a | s | ns | p | np | l | ge | le | g
  deriving DecidableEq, Repr

/-- The prefix bytes that stand before the opcode: at most one 66, one 67 and one segment override (R95, R96). Their
order has no effect and is not kept. -/
structure Prefixes where
  opSize : Bool
  addrSize : Bool
  seg : Option SReg
  deriving DecidableEq, Repr

/-- No prefix byte at all. -/
def Prefixes.empty : Prefixes := ⟨false, false, none⟩

/-- The number of prefix bytes, the first summand of `L` (R88). -/
def Prefixes.count (p : Prefixes) : Nat :=
  p.opSize.toNat + p.addrSize.toNat + p.seg.isSome.toNat

/-- `OperandSize` for the code segment's default size (R40). -/
def Prefixes.operandSize (p : Prefixes) (dflt : Size) : Size :=
  if p.opSize then dflt.other else dflt

/-- `AddressSize` for the code segment's default size (R41). -/
def Prefixes.addressSize (p : Prefixes) (dflt : Size) : Size :=
  if p.addrSize then dflt.other else dflt

/-- The register part of a 16-bit address form, `rm` = 0 to 7 (R92). -/
inductive Base16 where
  | bxSi | bxDi | bpSi | bpDi | si | di | bp | bx
  deriving DecidableEq, Repr

/-- The displacement that `mod` = 0, 1 or 2 adds to a 16-bit address form (R92). -/
inductive Disp16 where
  | none
  | d8 (v : Byte)
  | d16 (v : Word16)
  deriving DecidableEq, Repr

/-- The displacement that `mod` = 0, 1 or 2 adds to a 32-bit address form (R93). -/
inductive Disp32 where
  | none
  | d8 (v : Byte)
  | d32 (v : Word32)
  deriving DecidableEq, Repr

/-- The factor `2^scale` of a SIB byte (R93). -/
inductive Scale where
  | x1 | x2 | x4 | x8
  deriving DecidableEq, Repr

/-- A memory operand with `AddressSize = 16` (R92). -/
inductive Mem16 where
  /-- `mod = 0`, `rm = 6`: "disp16 alone" -/
  | direct (disp : Word16)
  | based (base : Base16) (disp : Disp16)
  deriving DecidableEq, Repr

/-- A memory operand with `AddressSize = 32` (R93). `index = none` is the SIB index field 4, "no index". -/
inductive Mem32 where
  /-- `mod = 0`, `rm = 5`: "disp32 alone" -/
  | direct (disp : Word32)
  | based (base : GReg) (disp : Disp32)
  | sib (scale : Scale) (index : Option GReg) (base : GReg) (disp : Disp32)
  /-- SIB with `base = 5` and `mod = 0`: "no base register and a disp32 follows" -/
  | sibNoBase (scale : Scale) (index : Option GReg) (disp : Word32)
  deriving DecidableEq, Repr

/-- The operand that a ModRM byte names: `mod = 3` is a register, any other `mod` a memory operand (R90, R91). -/
inductive RegMem where
  | reg (r : GReg)
  | mem16 (m : Mem16)
  | mem32 (m : Mem32)
  deriving DecidableEq, Repr

/-- The instructions, one constructor per row of `opcode_table.json`, in its order. -/
inductive Instr where
  /-- `JO rel8`, R114 -/
  | joRel8 (p : Prefixes) (d8 : Byte)
  /-- `JNO rel8`, R115 -/
  | jnoRel8 (p : Prefixes) (d8 : Byte)
  /-- `JB rel8`, R116 -/
  | jbRel8 (p : Prefixes) (d8 : Byte)
  /-- `JC rel8`, R116, a synonym of `JB rel8` -/
  | jcRel8 (p : Prefixes) (d8 : Byte)
  /-- `JNAE rel8`, R116, a synonym of `JB rel8` -/
  | jnaeRel8 (p : Prefixes) (d8 : Byte)
  /-- `JAE rel8`, R117 -/
  | jaeRel8 (p : Prefixes) (d8 : Byte)
  /-- `JNB rel8`, R117, a synonym of `JAE rel8` -/
  | jnbRel8 (p : Prefixes) (d8 : Byte)
  /-- `JNC rel8`, R117, a synonym of `JAE rel8` -/
  | jncRel8 (p : Prefixes) (d8 : Byte)
  /-- `JE rel8`, R118 -/
  | jeRel8 (p : Prefixes) (d8 : Byte)
  /-- `JZ rel8`, R118, a synonym of `JE rel8` -/
  | jzRel8 (p : Prefixes) (d8 : Byte)
  /-- `JNE rel8`, R119 -/
  | jneRel8 (p : Prefixes) (d8 : Byte)
  /-- `JNZ rel8`, R119, a synonym of `JNE rel8` -/
  | jnzRel8 (p : Prefixes) (d8 : Byte)
  /-- `JBE rel8`, R120 -/
  | jbeRel8 (p : Prefixes) (d8 : Byte)
  /-- `JNA rel8`, R120, a synonym of `JBE rel8` -/
  | jnaRel8 (p : Prefixes) (d8 : Byte)
  /-- `JA rel8`, R121 -/
  | jaRel8 (p : Prefixes) (d8 : Byte)
  /-- `JNBE rel8`, R121, a synonym of `JA rel8` -/
  | jnbeRel8 (p : Prefixes) (d8 : Byte)
  /-- `JS rel8`, R122 -/
  | jsRel8 (p : Prefixes) (d8 : Byte)
  /-- `JNS rel8`, R123 -/
  | jnsRel8 (p : Prefixes) (d8 : Byte)
  /-- `JP rel8`, R124 -/
  | jpRel8 (p : Prefixes) (d8 : Byte)
  /-- `JPE rel8`, R124, a synonym of `JP rel8` -/
  | jpeRel8 (p : Prefixes) (d8 : Byte)
  /-- `JNP rel8`, R125 -/
  | jnpRel8 (p : Prefixes) (d8 : Byte)
  /-- `JPO rel8`, R125, a synonym of `JNP rel8` -/
  | jpoRel8 (p : Prefixes) (d8 : Byte)
  /-- `JL rel8`, R126 -/
  | jlRel8 (p : Prefixes) (d8 : Byte)
  /-- `JNGE rel8`, R126, a synonym of `JL rel8` -/
  | jngeRel8 (p : Prefixes) (d8 : Byte)
  /-- `JGE rel8`, R127 -/
  | jgeRel8 (p : Prefixes) (d8 : Byte)
  /-- `JNL rel8`, R127, a synonym of `JGE rel8` -/
  | jnlRel8 (p : Prefixes) (d8 : Byte)
  /-- `JLE rel8`, R128 -/
  | jleRel8 (p : Prefixes) (d8 : Byte)
  /-- `JNG rel8`, R128, a synonym of `JLE rel8` -/
  | jngRel8 (p : Prefixes) (d8 : Byte)
  /-- `JG rel8`, R129 -/
  | jgRel8 (p : Prefixes) (d8 : Byte)
  /-- `JNLE rel8`, R129, a synonym of `JG rel8` -/
  | jnleRel8 (p : Prefixes) (d8 : Byte)
  /-- `JCXZ rel8`, R130 -/
  | jcxzRel8 (p : Prefixes) (d8 : Byte)
  /-- `JECXZ rel8`, R131 -/
  | jecxzRel8 (p : Prefixes) (d8 : Byte)
  /-- `JO rel16`, R132 -/
  | joRel16 (p : Prefixes) (rel : Word16)
  /-- `JO rel32`, R132 -/
  | joRel32 (p : Prefixes) (rel : Word32)
  /-- `JNO rel16`, R133 -/
  | jnoRel16 (p : Prefixes) (rel : Word16)
  /-- `JNO rel32`, R133 -/
  | jnoRel32 (p : Prefixes) (rel : Word32)
  /-- `JB rel16`, R134 -/
  | jbRel16 (p : Prefixes) (rel : Word16)
  /-- `JB rel32`, R134 -/
  | jbRel32 (p : Prefixes) (rel : Word32)
  /-- `JC rel16`, R134, a synonym of `JB rel16` -/
  | jcRel16 (p : Prefixes) (rel : Word16)
  /-- `JC rel32`, R134, a synonym of `JB rel32` -/
  | jcRel32 (p : Prefixes) (rel : Word32)
  /-- `JNAE rel16`, R134, a synonym of `JB rel16` -/
  | jnaeRel16 (p : Prefixes) (rel : Word16)
  /-- `JNAE rel32`, R134, a synonym of `JB rel32` -/
  | jnaeRel32 (p : Prefixes) (rel : Word32)
  /-- `JAE rel16`, R135 -/
  | jaeRel16 (p : Prefixes) (rel : Word16)
  /-- `JAE rel32`, R135 -/
  | jaeRel32 (p : Prefixes) (rel : Word32)
  /-- `JNB rel16`, R135, a synonym of `JAE rel16` -/
  | jnbRel16 (p : Prefixes) (rel : Word16)
  /-- `JNB rel32`, R135, a synonym of `JAE rel32` -/
  | jnbRel32 (p : Prefixes) (rel : Word32)
  /-- `JNC rel16`, R135, a synonym of `JAE rel16` -/
  | jncRel16 (p : Prefixes) (rel : Word16)
  /-- `JNC rel32`, R135, a synonym of `JAE rel32` -/
  | jncRel32 (p : Prefixes) (rel : Word32)
  /-- `JE rel16`, R136 -/
  | jeRel16 (p : Prefixes) (rel : Word16)
  /-- `JE rel32`, R136 -/
  | jeRel32 (p : Prefixes) (rel : Word32)
  /-- `JZ rel16`, R136, a synonym of `JE rel16` -/
  | jzRel16 (p : Prefixes) (rel : Word16)
  /-- `JZ rel32`, R136, a synonym of `JE rel32` -/
  | jzRel32 (p : Prefixes) (rel : Word32)
  /-- `JNE rel16`, R137 -/
  | jneRel16 (p : Prefixes) (rel : Word16)
  /-- `JNE rel32`, R137 -/
  | jneRel32 (p : Prefixes) (rel : Word32)
  /-- `JNZ rel16`, R137, a synonym of `JNE rel16` -/
  | jnzRel16 (p : Prefixes) (rel : Word16)
  /-- `JNZ rel32`, R137, a synonym of `JNE rel32` -/
  | jnzRel32 (p : Prefixes) (rel : Word32)
  /-- `JBE rel16`, R138 -/
  | jbeRel16 (p : Prefixes) (rel : Word16)
  /-- `JBE rel32`, R138 -/
  | jbeRel32 (p : Prefixes) (rel : Word32)
  /-- `JNA rel16`, R138, a synonym of `JBE rel16` -/
  | jnaRel16 (p : Prefixes) (rel : Word16)
  /-- `JNA rel32`, R138, a synonym of `JBE rel32` -/
  | jnaRel32 (p : Prefixes) (rel : Word32)
  /-- `JA rel16`, R139 -/
  | jaRel16 (p : Prefixes) (rel : Word16)
  /-- `JA rel32`, R139 -/
  | jaRel32 (p : Prefixes) (rel : Word32)
  /-- `JNBE rel16`, R139, a synonym of `JA rel16` -/
  | jnbeRel16 (p : Prefixes) (rel : Word16)
  /-- `JNBE rel32`, R139, a synonym of `JA rel32` -/
  | jnbeRel32 (p : Prefixes) (rel : Word32)
  /-- `JS rel16`, R140 -/
  | jsRel16 (p : Prefixes) (rel : Word16)
  /-- `JS rel32`, R140 -/
  | jsRel32 (p : Prefixes) (rel : Word32)
  /-- `JNS rel16`, R141 -/
  | jnsRel16 (p : Prefixes) (rel : Word16)
  /-- `JNS rel32`, R141 -/
  | jnsRel32 (p : Prefixes) (rel : Word32)
  /-- `JP rel16`, R142 -/
  | jpRel16 (p : Prefixes) (rel : Word16)
  /-- `JP rel32`, R142 -/
  | jpRel32 (p : Prefixes) (rel : Word32)
  /-- `JPE rel16`, R142, a synonym of `JP rel16` -/
  | jpeRel16 (p : Prefixes) (rel : Word16)
  /-- `JPE rel32`, R142, a synonym of `JP rel32` -/
  | jpeRel32 (p : Prefixes) (rel : Word32)
  /-- `JNP rel16`, R143 -/
  | jnpRel16 (p : Prefixes) (rel : Word16)
  /-- `JNP rel32`, R143 -/
  | jnpRel32 (p : Prefixes) (rel : Word32)
  /-- `JPO rel16`, R143, a synonym of `JNP rel16` -/
  | jpoRel16 (p : Prefixes) (rel : Word16)
  /-- `JPO rel32`, R143, a synonym of `JNP rel32` -/
  | jpoRel32 (p : Prefixes) (rel : Word32)
  /-- `JL rel16`, R144 -/
  | jlRel16 (p : Prefixes) (rel : Word16)
  /-- `JL rel32`, R144 -/
  | jlRel32 (p : Prefixes) (rel : Word32)
  /-- `JNGE rel16`, R144, a synonym of `JL rel16` -/
  | jngeRel16 (p : Prefixes) (rel : Word16)
  /-- `JNGE rel32`, R144, a synonym of `JL rel32` -/
  | jngeRel32 (p : Prefixes) (rel : Word32)
  /-- `JGE rel16`, R145 -/
  | jgeRel16 (p : Prefixes) (rel : Word16)
  /-- `JGE rel32`, R145 -/
  | jgeRel32 (p : Prefixes) (rel : Word32)
  /-- `JNL rel16`, R145, a synonym of `JGE rel16` -/
  | jnlRel16 (p : Prefixes) (rel : Word16)
  /-- `JNL rel32`, R145, a synonym of `JGE rel32` -/
  | jnlRel32 (p : Prefixes) (rel : Word32)
  /-- `JLE rel16`, R146 -/
  | jleRel16 (p : Prefixes) (rel : Word16)
  /-- `JLE rel32`, R146 -/
  | jleRel32 (p : Prefixes) (rel : Word32)
  /-- `JNG rel16`, R146, a synonym of `JLE rel16` -/
  | jngRel16 (p : Prefixes) (rel : Word16)
  /-- `JNG rel32`, R146, a synonym of `JLE rel32` -/
  | jngRel32 (p : Prefixes) (rel : Word32)
  /-- `JG rel16`, R147 -/
  | jgRel16 (p : Prefixes) (rel : Word16)
  /-- `JG rel32`, R147 -/
  | jgRel32 (p : Prefixes) (rel : Word32)
  /-- `JNLE rel16`, R147, a synonym of `JG rel16` -/
  | jnleRel16 (p : Prefixes) (rel : Word16)
  /-- `JNLE rel32`, R147, a synonym of `JG rel32` -/
  | jnleRel32 (p : Prefixes) (rel : Word32)
  /-- `JMP rel8`, R163 -/
  | jmpRel8 (p : Prefixes) (d8 : Byte)
  /-- `JMP rel16`, R164 -/
  | jmpRel16 (p : Prefixes) (rel : Word16)
  /-- `JMP rel32`, R165 -/
  | jmpRel32 (p : Prefixes) (rel : Word32)
  /-- `JMP r/m16`, R166 -/
  | jmpRm16 (p : Prefixes) (rm : RegMem)
  /-- `JMP r/m32`, R167 -/
  | jmpRm32 (p : Prefixes) (rm : RegMem)
  /-- `JMP ptr16:16`, R180 -/
  | jmpPtr16x16 (p : Prefixes) (off : Word16) (sel : Word16)
  /-- `JMP ptr16:32`, R181 -/
  | jmpPtr16x32 (p : Prefixes) (off : Word32) (sel : Word16)
  /-- `JMP m16:16`, R182 -/
  | jmpM16x16 (p : Prefixes) (rm : RegMem)
  /-- `JMP m16:32`, R183 -/
  | jmpM16x32 (p : Prefixes) (rm : RegMem)
  deriving DecidableEq, Repr

end Sys2Proof
end

