-- ==== Sys2Proof/WellFormed.lean ====
section
/-! DEFINITION. Which instructions have an encoding, for a default size of the code segment (`30_encoding.md` R81,
R89 to R96): the size overrides agree with the row's operand size and with the address form, a segment override
stands only with a memory operand, and an address form is one that ModRM and SIB can express. -/

namespace Sys2Proof

/-- `BP` alone with no displacement has no encoding: `mod = 0`, `rm = 6` is "disp16 alone" (R92). -/
def Mem16.wellFormed : Mem16 → Bool
  | .direct _ => true
  | .based .bp .none => false
  | .based _ _ => true

/-- Field 4 of a SIB index means "no index", so ESP is never one (R93). -/
def indexOk : Option GReg → Bool
  | some .esp => false
  | _ => true

/-- `rm = 4` calls for a SIB byte, so ESP is no plain base; `rm = 5` or `base = 5` with `mod = 0` is no register, so
EBP is no base without a displacement (R93). -/
def Mem32.wellFormed : Mem32 → Bool
  | .direct _ => true
  | .based .esp _ => false
  | .based .ebp .none => false
  | .based _ _ => true
  | .sib _ _ .ebp .none => false
  | .sib _ index _ _ => indexOk index
  | .sibNoBase _ index _ => indexOk index

/-- A ModRM operand under the prefix bytes `p`: the address form has the address size, and only a memory operand may
have a segment override (R90, R92, R93, R96). -/
def RegMem.wellFormed (dflt : Size) (p : Prefixes) : RegMem → Bool
  | .reg _ => p.seg.isNone
  | .mem16 m => p.addressSize dflt == .w16 && m.wellFormed
  | .mem32 m => p.addressSize dflt == .w32 && m.wellFormed

/-- An instruction that carries no memory operand and that either operand size admits (R96). -/
def Prefixes.okAnySize (p : Prefixes) : Bool := p.seg.isNone

/-- A row with an `operand_size` and no memory operand: the attribute must equal it (R89, R96). -/
def Prefixes.okSized (dflt : Size) (p : Prefixes) (w : Size) : Bool :=
  p.seg.isNone && p.operandSize dflt == w

/-- Opcode E3: `COUNT_SEL` must pick the row's count register (R86, R96). -/
def Prefixes.okCount (dflt : Size) (p : Prefixes) (w : Size) : Bool :=
  p.seg.isNone && Config.countSel (p.operandSize dflt) (p.addressSize dflt) == w

/-- `wellFormed dflt i`: the bytes of `i`, met in a code segment of default size `dflt`, are `i` again. -/
def wellFormed (dflt : Size) (i : Instr) : Bool :=
  match i with
  | .joRel8 p _ | .jnoRel8 p _ | .jbRel8 p _ | .jcRel8 p _ | .jnaeRel8 p _ | .jaeRel8 p _ | .jnbRel8 p _
  | .jncRel8 p _ | .jeRel8 p _ | .jzRel8 p _ | .jneRel8 p _ | .jnzRel8 p _ | .jbeRel8 p _ | .jnaRel8 p _
  | .jaRel8 p _ | .jnbeRel8 p _ | .jsRel8 p _ | .jnsRel8 p _ | .jpRel8 p _ | .jpeRel8 p _ | .jnpRel8 p _
  | .jpoRel8 p _ | .jlRel8 p _ | .jngeRel8 p _ | .jgeRel8 p _ | .jnlRel8 p _ | .jleRel8 p _ | .jngRel8 p _
  | .jgRel8 p _ | .jnleRel8 p _ | .jmpRel8 p _ => p.okAnySize
  | .jcxzRel8 p _ => p.okCount dflt .w16
  | .jecxzRel8 p _ => p.okCount dflt .w32
  | .joRel16 p _ | .jnoRel16 p _ | .jbRel16 p _ | .jcRel16 p _ | .jnaeRel16 p _ | .jaeRel16 p _ | .jnbRel16 p _
  | .jncRel16 p _ | .jeRel16 p _ | .jzRel16 p _ | .jneRel16 p _ | .jnzRel16 p _ | .jbeRel16 p _ | .jnaRel16 p _
  | .jaRel16 p _ | .jnbeRel16 p _ | .jsRel16 p _ | .jnsRel16 p _ | .jpRel16 p _ | .jpeRel16 p _ | .jnpRel16 p _
  | .jpoRel16 p _ | .jlRel16 p _ | .jngeRel16 p _ | .jgeRel16 p _ | .jnlRel16 p _ | .jleRel16 p _
  | .jngRel16 p _ | .jgRel16 p _ | .jnleRel16 p _ | .jmpRel16 p _ => p.okSized dflt .w16
  | .joRel32 p _ | .jnoRel32 p _ | .jbRel32 p _ | .jcRel32 p _ | .jnaeRel32 p _ | .jaeRel32 p _ | .jnbRel32 p _
  | .jncRel32 p _ | .jeRel32 p _ | .jzRel32 p _ | .jneRel32 p _ | .jnzRel32 p _ | .jbeRel32 p _ | .jnaRel32 p _
  | .jaRel32 p _ | .jnbeRel32 p _ | .jsRel32 p _ | .jnsRel32 p _ | .jpRel32 p _ | .jpeRel32 p _ | .jnpRel32 p _
  | .jpoRel32 p _ | .jlRel32 p _ | .jngeRel32 p _ | .jgeRel32 p _ | .jnlRel32 p _ | .jleRel32 p _
  | .jngRel32 p _ | .jgRel32 p _ | .jnleRel32 p _ | .jmpRel32 p _ => p.okSized dflt .w32
  | .jmpPtr16x16 p _ _ => p.okSized dflt .w16
  | .jmpPtr16x32 p _ _ => p.okSized dflt .w32
  | .jmpRm16 p rm | .jmpM16x16 p rm => p.operandSize dflt == .w16 && rm.wellFormed dflt p
  | .jmpRm32 p rm | .jmpM16x32 p rm => p.operandSize dflt == .w32 && rm.wellFormed dflt p

end Sys2Proof
end

