-- ==== Sys2Proof/Decode.lean ====
section
/-! DEFINITION. The decoder (`30_encoding.md` R80 to R101) and, after it, the encoder written from the same tables.
Both are total; the decoder refuses by name (R229). The byte order helpers of R53 stand here too. -/

namespace Sys2Proof

/-! ### Byte order (R53, R83) -/

/-- `b1 ++ b0`, the first byte of the stream least significant (R83). -/
def word16 (b0 b1 : Byte) : Word16 := b1 ++ b0

/-- `b3 ++ b2 ++ b1 ++ b0` (R83). -/
def word32 (b0 b1 b2 b3 : Byte) : Word32 := b3 ++ b2 ++ b1 ++ b0

/-- The bytes of a 16-bit value, least significant first (R53). -/
def leBytes16 (v : Word16) : List Byte := [v.extractLsb' 0 8, v.extractLsb' 8 8]

/-- The bytes of a 32-bit value, least significant first (R53). -/
def leBytes32 (v : Word32) : List Byte :=
  [v.extractLsb' 0 8, v.extractLsb' 8 8, v.extractLsb' 16 8, v.extractLsb' 24 8]

/-- The number whose byte `k` is the `k`-th of the list (R53), in `w` bits. -/
def leWord (w : Nat) : List Byte → BitVec w
  | [] => 0
  | b :: bs => b.setWidth w ||| (leWord w bs <<< 8)

/-- The next byte of the stream. -/
def takeByte : List Byte → Option (Byte × List Byte)
  | b :: r => some (b, r)
  | [] => none

/-- The next `cw` or `disp16`, low byte first (R83, R92). -/
def takeWord16 : List Byte → Option (Word16 × List Byte)
  | b0 :: b1 :: r => some (word16 b0 b1, r)
  | _ => none

/-- The next `cd` or `disp32`, low byte first (R83, R93). -/
def takeWord32 : List Byte → Option (Word32 × List Byte)
  | b0 :: b1 :: b2 :: b3 :: r => some (word32 b0 b1 b2 b3, r)
  | _ => none

/-! ### Field codes (R20, R85, R92, R93, R95) -/

/-- The number of a general register (R20). -/
def GReg.code : GReg → BitVec 3
  | .eax => 0 | .ecx => 1 | .edx => 2 | .ebx => 3 | .esp => 4 | .ebp => 5 | .esi => 6 | .edi => 7

/-- The general register of a number (R20). -/
def GReg.ofCode (n : BitVec 3) : GReg :=
  match n.toNat with
  | 0 => .eax | 1 => .ecx | 2 => .edx | 3 => .ebx | 4 => .esp | 5 => .ebp | 6 => .esi | _ => .edi

/-- `cc`, the low four bits of the opcode (R85). -/
def Cond.code : Cond → BitVec 4
  | .o => 0x0 | .no => 0x1 | .b => 0x2 | .ae => 0x3 | .e => 0x4 | .ne => 0x5 | .be => 0x6 | .a => 0x7
  | .s => 0x8 | .ns => 0x9 | .p => 0xA | .np => 0xB | .l => 0xC | .ge => 0xD | .le => 0xE | .g => 0xF

/-- The condition of a `cc` (R85). -/
def Cond.ofCode (n : BitVec 4) : Cond :=
  match n.toNat with
  | 0x0 => .o | 0x1 => .no | 0x2 => .b | 0x3 => .ae | 0x4 => .e | 0x5 => .ne | 0x6 => .be | 0x7 => .a
  | 0x8 => .s | 0x9 => .ns | 0xA => .p | 0xB => .np | 0xC => .l | 0xD => .ge | 0xE => .le | _ => .g

/-- The `rm` field of a 16-bit address form (R92). -/
def Base16.code : Base16 → BitVec 3
  | .bxSi => 0 | .bxDi => 1 | .bpSi => 2 | .bpDi => 3 | .si => 4 | .di => 5 | .bp => 6 | .bx => 7

/-- The 16-bit address form of an `rm` field (R92). -/
def Base16.ofCode (n : BitVec 3) : Base16 :=
  match n.toNat with
  | 0 => .bxSi | 1 => .bxDi | 2 => .bpSi | 3 => .bpDi | 4 => .si | 5 => .di | 6 => .bp | _ => .bx

/-- The `scale` field of a SIB byte (R93). -/
def Scale.code : Scale → BitVec 2
  | .x1 => 0 | .x2 => 1 | .x4 => 2 | .x8 => 3

/-- The factor of a `scale` field (R93). -/
def Scale.ofCode (n : BitVec 2) : Scale :=
  match n.toNat with
  | 0 => .x1 | 1 => .x2 | 2 => .x4 | _ => .x8

/-- The SIB index field; 4 is "no index" (R93). -/
def indexCode : Option GReg → BitVec 3
  | none => 4
  | some r => r.code

/-- The index register of a SIB index field (R93). -/
def indexOfCode (n : BitVec 3) : Option GReg :=
  if n = 4 then none else some (GReg.ofCode n)

/-- The override byte of a segment register (R95). -/
def SReg.overrideByte : SReg → Byte
  | .cs => 0x2E | .ss => 0x36 | .ds => 0x3E | .es => 0x26 | .fs => 0x64 | .gs => 0x65

/-- What a prefix byte asks for (R95). -/
inductive PrefixByte where
  | opSize
  | addrSize
  | seg (r : SReg)
  /-- LOCK, REPNE, REP -/
  | lockRep
  deriving DecidableEq, Repr

/-- The prefix bytes of R95; any other byte begins the opcode. -/
def prefixByte (b : Byte) : Option PrefixByte :=
  match b.toNat with
  | 0x66 => some .opSize
  | 0x67 => some .addrSize
  | 0x2E => some (.seg .cs)
  | 0x36 => some (.seg .ss)
  | 0x3E => some (.seg .ds)
  | 0x26 => some (.seg .es)
  | 0x64 => some (.seg .fs)
  | 0x65 => some (.seg .gs)
  | 0xF0 => some .lockRep
  | 0xF2 => some .lockRep
  | 0xF3 => some .lockRep
  | _ => none

/-! ### The parts of an instruction and its length -/

/-- What follows the prefix bytes, one constructor per format of R81 and kind of operand, synonyms being one. -/
inductive Shape where
  | jcc8 (c : Cond) (d8 : Byte)
  | jcc16 (c : Cond) (rel : Word16)
  | jcc32 (c : Cond) (rel : Word32)
  | count (w : Size) (d8 : Byte)
  | jmp8 (d8 : Byte)
  | jmp16 (rel : Word16)
  | jmp32 (rel : Word32)
  | ptr16 (off : Word16) (sel : Word16)
  | ptr32 (off : Word32) (sel : Word16)
  | nearRm (w : Size) (rm : RegMem)
  | farRm (w : Size) (rm : RegMem)
  deriving DecidableEq, Repr

/-- The prefix bytes and the rest of an instruction; the synonyms of a row have one shape (R85, R104). -/
def Instr.parts (i : Instr) : Prefixes × Shape :=
  match i with
  | .joRel8 p d8 => (p, .jcc8 .o d8)
  | .jnoRel8 p d8 => (p, .jcc8 .no d8)
  | .jbRel8 p d8 | .jcRel8 p d8 | .jnaeRel8 p d8 => (p, .jcc8 .b d8)
  | .jaeRel8 p d8 | .jnbRel8 p d8 | .jncRel8 p d8 => (p, .jcc8 .ae d8)
  | .jeRel8 p d8 | .jzRel8 p d8 => (p, .jcc8 .e d8)
  | .jneRel8 p d8 | .jnzRel8 p d8 => (p, .jcc8 .ne d8)
  | .jbeRel8 p d8 | .jnaRel8 p d8 => (p, .jcc8 .be d8)
  | .jaRel8 p d8 | .jnbeRel8 p d8 => (p, .jcc8 .a d8)
  | .jsRel8 p d8 => (p, .jcc8 .s d8)
  | .jnsRel8 p d8 => (p, .jcc8 .ns d8)
  | .jpRel8 p d8 | .jpeRel8 p d8 => (p, .jcc8 .p d8)
  | .jnpRel8 p d8 | .jpoRel8 p d8 => (p, .jcc8 .np d8)
  | .jlRel8 p d8 | .jngeRel8 p d8 => (p, .jcc8 .l d8)
  | .jgeRel8 p d8 | .jnlRel8 p d8 => (p, .jcc8 .ge d8)
  | .jleRel8 p d8 | .jngRel8 p d8 => (p, .jcc8 .le d8)
  | .jgRel8 p d8 | .jnleRel8 p d8 => (p, .jcc8 .g d8)
  | .jcxzRel8 p d8 => (p, .count .w16 d8)
  | .jecxzRel8 p d8 => (p, .count .w32 d8)
  | .joRel16 p rel => (p, .jcc16 .o rel)
  | .joRel32 p rel => (p, .jcc32 .o rel)
  | .jnoRel16 p rel => (p, .jcc16 .no rel)
  | .jnoRel32 p rel => (p, .jcc32 .no rel)
  | .jbRel16 p rel | .jcRel16 p rel | .jnaeRel16 p rel => (p, .jcc16 .b rel)
  | .jbRel32 p rel | .jcRel32 p rel | .jnaeRel32 p rel => (p, .jcc32 .b rel)
  | .jaeRel16 p rel | .jnbRel16 p rel | .jncRel16 p rel => (p, .jcc16 .ae rel)
  | .jaeRel32 p rel | .jnbRel32 p rel | .jncRel32 p rel => (p, .jcc32 .ae rel)
  | .jeRel16 p rel | .jzRel16 p rel => (p, .jcc16 .e rel)
  | .jeRel32 p rel | .jzRel32 p rel => (p, .jcc32 .e rel)
  | .jneRel16 p rel | .jnzRel16 p rel => (p, .jcc16 .ne rel)
  | .jneRel32 p rel | .jnzRel32 p rel => (p, .jcc32 .ne rel)
  | .jbeRel16 p rel | .jnaRel16 p rel => (p, .jcc16 .be rel)
  | .jbeRel32 p rel | .jnaRel32 p rel => (p, .jcc32 .be rel)
  | .jaRel16 p rel | .jnbeRel16 p rel => (p, .jcc16 .a rel)
  | .jaRel32 p rel | .jnbeRel32 p rel => (p, .jcc32 .a rel)
  | .jsRel16 p rel => (p, .jcc16 .s rel)
  | .jsRel32 p rel => (p, .jcc32 .s rel)
  | .jnsRel16 p rel => (p, .jcc16 .ns rel)
  | .jnsRel32 p rel => (p, .jcc32 .ns rel)
  | .jpRel16 p rel | .jpeRel16 p rel => (p, .jcc16 .p rel)
  | .jpRel32 p rel | .jpeRel32 p rel => (p, .jcc32 .p rel)
  | .jnpRel16 p rel | .jpoRel16 p rel => (p, .jcc16 .np rel)
  | .jnpRel32 p rel | .jpoRel32 p rel => (p, .jcc32 .np rel)
  | .jlRel16 p rel | .jngeRel16 p rel => (p, .jcc16 .l rel)
  | .jlRel32 p rel | .jngeRel32 p rel => (p, .jcc32 .l rel)
  | .jgeRel16 p rel | .jnlRel16 p rel => (p, .jcc16 .ge rel)
  | .jgeRel32 p rel | .jnlRel32 p rel => (p, .jcc32 .ge rel)
  | .jleRel16 p rel | .jngRel16 p rel => (p, .jcc16 .le rel)
  | .jleRel32 p rel | .jngRel32 p rel => (p, .jcc32 .le rel)
  | .jgRel16 p rel | .jnleRel16 p rel => (p, .jcc16 .g rel)
  | .jgRel32 p rel | .jnleRel32 p rel => (p, .jcc32 .g rel)
  | .jmpRel8 p d8 => (p, .jmp8 d8)
  | .jmpRel16 p rel => (p, .jmp16 rel)
  | .jmpRel32 p rel => (p, .jmp32 rel)
  | .jmpRm16 p rm => (p, .nearRm .w16 rm)
  | .jmpRm32 p rm => (p, .nearRm .w32 rm)
  | .jmpPtr16x16 p off sel => (p, .ptr16 off sel)
  | .jmpPtr16x32 p off sel => (p, .ptr32 off sel)
  | .jmpM16x16 p rm => (p, .farRm .w16 rm)
  | .jmpM16x32 p rm => (p, .farRm .w32 rm)

/-- The row without `alias_of` of a condition, short form (R85, R89). -/
def jccRel8 : Cond → Prefixes → Byte → Instr
  | .o, p, d8 => .joRel8 p d8
  | .no, p, d8 => .jnoRel8 p d8
  | .b, p, d8 => .jbRel8 p d8
  | .ae, p, d8 => .jaeRel8 p d8
  | .e, p, d8 => .jeRel8 p d8
  | .ne, p, d8 => .jneRel8 p d8
  | .be, p, d8 => .jbeRel8 p d8
  | .a, p, d8 => .jaRel8 p d8
  | .s, p, d8 => .jsRel8 p d8
  | .ns, p, d8 => .jnsRel8 p d8
  | .p, p, d8 => .jpRel8 p d8
  | .np, p, d8 => .jnpRel8 p d8
  | .l, p, d8 => .jlRel8 p d8
  | .ge, p, d8 => .jgeRel8 p d8
  | .le, p, d8 => .jleRel8 p d8
  | .g, p, d8 => .jgRel8 p d8

/-- The row without `alias_of` of a condition, near form with rel16 (R85, R89). -/
def jccRel16 : Cond → Prefixes → Word16 → Instr
  | .o, p, rel => .joRel16 p rel
  | .no, p, rel => .jnoRel16 p rel
  | .b, p, rel => .jbRel16 p rel
  | .ae, p, rel => .jaeRel16 p rel
  | .e, p, rel => .jeRel16 p rel
  | .ne, p, rel => .jneRel16 p rel
  | .be, p, rel => .jbeRel16 p rel
  | .a, p, rel => .jaRel16 p rel
  | .s, p, rel => .jsRel16 p rel
  | .ns, p, rel => .jnsRel16 p rel
  | .p, p, rel => .jpRel16 p rel
  | .np, p, rel => .jnpRel16 p rel
  | .l, p, rel => .jlRel16 p rel
  | .ge, p, rel => .jgeRel16 p rel
  | .le, p, rel => .jleRel16 p rel
  | .g, p, rel => .jgRel16 p rel

/-- The row without `alias_of` of a condition, near form with rel32 (R85, R89). -/
def jccRel32 : Cond → Prefixes → Word32 → Instr
  | .o, p, rel => .joRel32 p rel
  | .no, p, rel => .jnoRel32 p rel
  | .b, p, rel => .jbRel32 p rel
  | .ae, p, rel => .jaeRel32 p rel
  | .e, p, rel => .jeRel32 p rel
  | .ne, p, rel => .jneRel32 p rel
  | .be, p, rel => .jbeRel32 p rel
  | .a, p, rel => .jaRel32 p rel
  | .s, p, rel => .jsRel32 p rel
  | .ns, p, rel => .jnsRel32 p rel
  | .p, p, rel => .jpRel32 p rel
  | .np, p, rel => .jnpRel32 p rel
  | .l, p, rel => .jlRel32 p rel
  | .ge, p, rel => .jgeRel32 p rel
  | .le, p, rel => .jleRel32 p rel
  | .g, p, rel => .jgRel32 p rel

/-- The row without `alias_of` that has the parts of `i` (R89, R104). -/
def Instr.core (i : Instr) : Instr :=
  match i.parts with
  | (p, .jcc8 c d8) => jccRel8 c p d8
  | (p, .jcc16 c rel) => jccRel16 c p rel
  | (p, .jcc32 c rel) => jccRel32 c p rel
  | (p, .count .w16 d8) => .jcxzRel8 p d8
  | (p, .count .w32 d8) => .jecxzRel8 p d8
  | (p, .jmp8 d8) => .jmpRel8 p d8
  | (p, .jmp16 rel) => .jmpRel16 p rel
  | (p, .jmp32 rel) => .jmpRel32 p rel
  | (p, .ptr16 off sel) => .jmpPtr16x16 p off sel
  | (p, .ptr32 off sel) => .jmpPtr16x32 p off sel
  | (p, .nearRm .w16 rm) => .jmpRm16 p rm
  | (p, .nearRm .w32 rm) => .jmpRm32 p rm
  | (p, .farRm .w16 rm) => .jmpM16x16 p rm
  | (p, .farRm .w32 rm) => .jmpM16x32 p rm

/-- Displacement bytes of a 16-bit address form: 0, 1 or 2 (R92). -/
def Mem16.extraBytes : Mem16 → Nat
  | .direct _ => 2
  | .based _ .none => 0
  | .based _ (.d8 _) => 1
  | .based _ (.d16 _) => 2

/-- Displacement bytes of a 32-bit address form: 0, 1 or 4 (R93). -/
def Disp32.byteCount : Disp32 → Nat
  | .none => 0
  | .d8 _ => 1
  | .d32 _ => 4

/-- SIB and displacement bytes of a 32-bit address form (R88, R93). -/
def Mem32.extraBytes : Mem32 → Nat
  | .direct _ => 4
  | .based _ d => d.byteCount
  | .sib _ _ _ d => 1 + d.byteCount
  | .sibNoBase _ _ _ => 5

/-- Bytes after the ModRM byte (R88). -/
def RegMem.extraBytes : RegMem → Nat
  | .reg _ => 0
  | .mem16 m => m.extraBytes
  | .mem32 m => m.extraBytes

/-- The length of the format, prefix bytes not counted (R81, R88). FF /4 and FF /5 take up to 7 bytes with either
operand size, although R166 and R182 say 2 to 6 with OperandSize 16: DESIGN CHOICE, log entry 40. -/
def Shape.length : Shape → Nat
  | .jcc8 _ _ | .count _ _ | .jmp8 _ => 2
  | .jcc16 _ _ => 4
  | .jcc32 _ _ => 6
  | .jmp16 _ => 3
  | .jmp32 _ => 5
  | .ptr16 _ _ => 5
  | .ptr32 _ _ => 7
  | .nearRm _ rm | .farRm _ rm => 2 + rm.extraBytes

/-- `L`, the length of an instruction with its prefix bytes (R88). -/
def Instr.length (i : Instr) : Nat := i.parts.1.count + i.parts.2.length

/-! ### The decoder -/

/-- Why the decoder gives no instruction (R229). -/
inductive DecodeRefusal where
  | opcodeOutOfScope
  | prefixNotModelled
  | instructionTooLong
  deriving DecidableEq, Repr

/-- What the decoder says of a stream of bytes: an instruction and the bytes after it, a stream that ends inside an
instruction, or a refusal. -/
inductive Decoded where
  | ok (i : Instr) (rest : List Byte)
  | truncated
  | refused (r : DecodeRefusal)
  deriving DecidableEq, Repr

/-- The memory operand of `AddressSize = 16` (R92); `none` when the stream ends inside it. -/
def decodeMem16 (mod : BitVec 2) (rm : BitVec 3) (bs : List Byte) : Option (Mem16 × List Byte) :=
  if mod = 0 then
    if rm = 6 then (takeWord16 bs).map fun (d, r) => (.direct d, r)
    else some (.based (Base16.ofCode rm) .none, bs)
  else if mod = 1 then (takeByte bs).map fun (d, r) => (.based (Base16.ofCode rm) (.d8 d), r)
  else (takeWord16 bs).map fun (d, r) => (.based (Base16.ofCode rm) (.d16 d), r)

/-- The displacement that `mod` asks for in a 32-bit address form (R93). -/
def decodeDisp32 (mod : BitVec 2) (bs : List Byte) : Option (Disp32 × List Byte) :=
  if mod = 0 then some (.none, bs)
  else if mod = 1 then (takeByte bs).map fun (d, r) => (.d8 d, r)
  else (takeWord32 bs).map fun (d, r) => (.d32 d, r)

/-- The SIB byte and the displacement after it (R93). -/
def decodeSib (mod : BitVec 2) (bs : List Byte) : Option (Mem32 × List Byte) :=
  match takeByte bs with
  | none => none
  | some (sib, bs') =>
    let scale := Scale.ofCode (sib.extractLsb' 6 2)
    let index := indexOfCode (sib.extractLsb' 3 3)
    let base := sib.extractLsb' 0 3
    if mod = 0 ∧ base = 5 then (takeWord32 bs').map fun (d, r) => (.sibNoBase scale index d, r)
    else (decodeDisp32 mod bs').map fun (d, r) => (.sib scale index (GReg.ofCode base) d, r)

/-- The memory operand of `AddressSize = 32` (R93). -/
def decodeMem32 (mod : BitVec 2) (rm : BitVec 3) (bs : List Byte) : Option (Mem32 × List Byte) :=
  if rm = 4 then decodeSib mod bs
  else if mod = 0 ∧ rm = 5 then (takeWord32 bs).map fun (d, r) => (.direct d, r)
  else (decodeDisp32 mod bs).map fun (d, r) => (.based (GReg.ofCode rm) d, r)

/-- The operand of a ModRM byte already taken (R90, R91). -/
def decodeRegMem (addressSize : Size) (modrm : Byte) (bs : List Byte) : Option (RegMem × List Byte) :=
  let mod := modrm.extractLsb' 6 2
  let rm := modrm.extractLsb' 0 3
  if mod = 3 then some (.reg (GReg.ofCode rm), bs)
  else
    match addressSize with
    | .w16 => (decodeMem16 mod rm bs).map fun (m, r) => (.mem16 m, r)
    | .w32 => (decodeMem32 mod rm bs).map fun (m, r) => (.mem32 m, r)

/-- Whether the operand is in memory, so that a segment override has a meaning (R96). -/
def RegMem.isMem : RegMem → Bool
  | .reg _ => false
  | .mem16 _ => true
  | .mem32 _ => true

/-- The last checks on an instruction read whole: a segment override needs a memory operand (R96), and the length
may not pass `MAX_INSN_LEN` (R88, which never binds under R96). -/
def admitInstr (p : Prefixes) (hasMem : Bool) (i : Instr) (rest : List Byte) : Decoded :=
  if p.seg.isSome && !hasMem then .refused .prefixNotModelled
  else if Config.maxInsnLen < i.length then .refused .instructionTooLong
  else .ok i rest

/-- An instruction without a memory operand, from what follows its opcode. -/
def admitTaken {α : Type} (p : Prefixes) (build : α → Instr) : Option (α × List Byte) → Decoded
  | none => .truncated
  | some (v, rest) => admitInstr p false (build v) rest

/-- Opcode FF: the `reg` field of the ModRM byte picks near (`/4`) or far (`/5`) indirect (R81, R87, R90); any other
digit is refused from that byte alone (R99). With OperandSize 16, AddressSize 32, a SIB byte and disp32 the instruction
takes 7 bytes, which R81, R88 and R93 give and R166 and R182 ("2 to 6 bytes") do not; the decoder accepts it: DESIGN
CHOICE, log entry 40. -/
def decodeFF (dflt : Size) (p : Prefixes) (bs : List Byte) : Decoded :=
  match takeByte bs with
  | none => .truncated
  | some (modrm, bs') =>
    let digit := modrm.extractLsb' 3 3
    if digit = 4 ∨ digit = 5 then
      match decodeRegMem (p.addressSize dflt) modrm bs' with
      | none => .truncated
      | some (rm, rest) =>
        let i := match p.operandSize dflt with
          | .w16 => if digit = 4 then Instr.jmpRm16 p rm else .jmpM16x16 p rm
          | .w32 => if digit = 4 then Instr.jmpRm32 p rm else .jmpM16x32 p rm
        admitInstr p rm.isMem i rest
    else .refused .opcodeOutOfScope

/-- The two-byte opcodes `0F 80+cc` (R85); any other second byte is refused (R100). -/
def decode0F (dflt : Size) (p : Prefixes) (bs : List Byte) : Decoded :=
  match takeByte bs with
  | none => .truncated
  | some (b, bs') =>
    if b.extractLsb' 4 4 = 8 then
      let c := Cond.ofCode (b.extractLsb' 0 4)
      match p.operandSize dflt with
      | .w16 => admitTaken p (jccRel16 c p) (takeWord16 bs')
      | .w32 => admitTaken p (jccRel32 c p) (takeWord32 bs')
    else .refused .opcodeOutOfScope

/-- A long pointer in the instruction: offset, then selector (R84, R75). -/
def takePtr16 (bs : List Byte) : Option ((Word16 × Word16) × List Byte) :=
  match takeWord16 bs with
  | none => none
  | some (off, bs') => (takeWord16 bs').map fun (sel, r) => ((off, sel), r)

/-- A long pointer with a 32-bit offset (R84, R75). -/
def takePtr32 (bs : List Byte) : Option ((Word32 × Word16) × List Byte) :=
  match takeWord32 bs with
  | none => none
  | some (off, bs') => (takeWord16 bs').map fun (sel, r) => ((off, sel), r)

/-- The opcode map of R85 to R87, after the prefix bytes; any other first byte is refused (R100). -/
def decodeOpcode (dflt : Size) (p : Prefixes) (bs : List Byte) : Decoded :=
  match takeByte bs with
  | none => .truncated
  | some (b, r) =>
    if b.extractLsb' 4 4 = 7 then
      admitTaken p (jccRel8 (Cond.ofCode (b.extractLsb' 0 4)) p) (takeByte r)
    else if b = 0xE3 then
      match Config.countSel (p.operandSize dflt) (p.addressSize dflt) with
      | .w16 => admitTaken p (Instr.jcxzRel8 p) (takeByte r)
      | .w32 => admitTaken p (Instr.jecxzRel8 p) (takeByte r)
    else if b = 0xEB then admitTaken p (Instr.jmpRel8 p) (takeByte r)
    else if b = 0xE9 then
      match p.operandSize dflt with
      | .w16 => admitTaken p (Instr.jmpRel16 p) (takeWord16 r)
      | .w32 => admitTaken p (Instr.jmpRel32 p) (takeWord32 r)
    else if b = 0xEA then
      match p.operandSize dflt with
      | .w16 => admitTaken p (fun v => Instr.jmpPtr16x16 p v.1 v.2) (takePtr16 r)
      | .w32 => admitTaken p (fun v => Instr.jmpPtr16x32 p v.1 v.2) (takePtr32 r)
    else if b = 0xFF then decodeFF dflt p r
    else if b = 0x0F then decode0F dflt p r
    else .refused .opcodeOutOfScope

/-- The prefix bytes, then the opcode: at most one 66, one 67 and one segment override, in any order; a repeated one,
LOCK, REP and REPNE are refused where they are met (R96, R97; log entry 18). -/
def decodeFrom (dflt : Size) (p : Prefixes) : List Byte → Decoded
  | [] => .truncated
  | b :: r =>
    match prefixByte b with
    | none => decodeOpcode dflt p (b :: r)
    | some .opSize =>
      if p.opSize then .refused .prefixNotModelled else decodeFrom dflt { p with opSize := true } r
    | some .addrSize =>
      if p.addrSize then .refused .prefixNotModelled else decodeFrom dflt { p with addrSize := true } r
    | some (.seg x) =>
      if p.seg.isSome then .refused .prefixNotModelled else decodeFrom dflt { p with seg := some x } r
    | some .lockRep => .refused .prefixNotModelled

/-- The instruction at the head of a stream of bytes, in a code segment of default size `dflt` (R80, R40, R41). -/
def decode (dflt : Size) (bs : List Byte) : Decoded := decodeFrom dflt Prefixes.empty bs

/-- The `n` bytes of the number `w` from byte `k` on, byte 0 least significant. -/
def natBytes (w : Nat) : Nat → Nat → List Byte
  | 0, _ => []
  | n + 1, k => BitVec.ofNat 8 (w >>> (8 * k)) :: natBytes w n (k + 1)

/-- The instruction read from the bits `w` of a row of `nbits` bits, all bits above them zero, in a segment whose
default size is 16, which is the default after reset (log entry 21). -/
def decodeTableWord (nbits w : Nat) : Option Instr :=
  match decode .w16 (natBytes (w % 2 ^ nbits) Config.maxInsnLen 0) with
  | .ok i _ => some i
  | _ => none

/-! ### The encoder -/

/-- The ModRM byte `mod ++ reg ++ rm` (R81, R90). -/
def modRM (mod : BitVec 2) (reg rm : BitVec 3) : Byte := mod ++ reg ++ rm

/-- ModRM byte and displacement of a 16-bit address form (R92). -/
def Mem16.bytes (digit : BitVec 3) : Mem16 → List Byte
  | .direct d => modRM 0 digit 6 :: leBytes16 d
  | .based b .none => [modRM 0 digit b.code]
  | .based b (.d8 d) => [modRM 1 digit b.code, d]
  | .based b (.d16 d) => modRM 2 digit b.code :: leBytes16 d

/-- The `mod` field of a displacement (R93). -/
def Disp32.mod : Disp32 → BitVec 2
  | .none => 0
  | .d8 _ => 1
  | .d32 _ => 2

/-- The bytes of a displacement (R93). -/
def Disp32.bytes : Disp32 → List Byte
  | .none => []
  | .d8 d => [d]
  | .d32 d => leBytes32 d

/-- The SIB byte `scale ++ index ++ base` (R93). -/
def sibByte (scale : Scale) (index : Option GReg) (base : BitVec 3) : Byte :=
  scale.code ++ indexCode index ++ base

/-- ModRM byte, SIB byte and displacement of a 32-bit address form (R93). -/
def Mem32.bytes (digit : BitVec 3) : Mem32 → List Byte
  | .direct d => modRM 0 digit 5 :: leBytes32 d
  | .based r d => modRM d.mod digit r.code :: d.bytes
  | .sib s x b d => modRM d.mod digit 4 :: sibByte s x b.code :: d.bytes
  | .sibNoBase s x d => modRM 0 digit 4 :: sibByte s x 5 :: leBytes32 d

/-- The bytes of a ModRM operand (R90, R91). -/
def RegMem.bytes (digit : BitVec 3) : RegMem → List Byte
  | .reg r => [modRM 3 digit r.code]
  | .mem16 m => m.bytes digit
  | .mem32 m => m.bytes digit

/-- The bytes after the prefix bytes (R81, R85 to R87). -/
def Shape.bytes : Shape → List Byte
  | .jcc8 c d => [0x7#4 ++ c.code, d]
  | .jcc16 c rel => 0x0F :: (0x8#4 ++ c.code) :: leBytes16 rel
  | .jcc32 c rel => 0x0F :: (0x8#4 ++ c.code) :: leBytes32 rel
  | .count _ d => [0xE3, d]
  | .jmp8 d => [0xEB, d]
  | .jmp16 rel => 0xE9 :: leBytes16 rel
  | .jmp32 rel => 0xE9 :: leBytes32 rel
  | .ptr16 off sel => 0xEA :: (leBytes16 off ++ leBytes16 sel)
  | .ptr32 off sel => 0xEA :: (leBytes32 off ++ leBytes16 sel)
  | .nearRm _ rm => 0xFF :: rm.bytes 4
  | .farRm _ rm => 0xFF :: rm.bytes 5

/-- The prefix bytes in the order 66, 67, override; any order decodes the same (R96). -/
def Prefixes.bytes (p : Prefixes) : List Byte :=
  (if p.opSize then [0x66] else []) ++ (if p.addrSize then [0x67] else []) ++
    (match p.seg with
     | none => []
     | some x => [x.overrideByte])

/-- The bytes of an instruction (R80). -/
def encode (i : Instr) : List Byte := i.parts.1.bytes ++ i.parts.2.bytes

end Sys2Proof
end

