-- ==== Sys2Proof/Machine/State.lean ====
section
/-! DEFINITION. The architectural state of `10_state.md`, the exceptions of `60_exceptions.md` R220, the reasons a
step ends without a next state (R228 to R230), and the state after reset (R44). -/

namespace Sys2Proof.Machine

/-- The eight general registers, 32 bits each (R20). -/
structure GRegs where
  eax : Word32
  ecx : Word32
  edx : Word32
  ebx : Word32
  esp : Word32
  ebp : Word32
  esi : Word32
  edi : Word32
  deriving DecidableEq, Repr

/-- A segment register: the 16 bits a program sees (R29) and the hidden copy of the descriptor it was loaded from
(R30). `limit` is the last valid offset, in bytes, already scaled; `d` is the default-size bit. `unusable` is the open
part of the predicate "not usable for a read" of R55 (D14; log entry 10). -/
structure Segment where
  selector : Word16
  base : Word32
  limit : Word32
  ar : Byte
  d : Bool
  unusable : Bool
  deriving DecidableEq, Repr

/-- GDTR (R35). -/
structure Gdtr where
  base : Word32
  limit : Word16
  deriving DecidableEq, Repr

/-- LDTR (R35); `usable` says that it holds a usable table (R64, R252). -/
structure Ldtr where
  base : Word32
  limit : Word32
  usable : Bool
  deriving DecidableEq, Repr

/-- What `Translate` answers for a linear address: a physical address or a page fault with its fault-code (R58). -/
inductive Translation where
  | physical (addr : Word32)
  | pageFault (code : Word32)
  deriving DecidableEq, Repr

/-- The parameter `Translate` of R58 as data: linear addresses strictly rising, none that maps to itself; an unlisted
address translates to itself, which is the spec's default (D10; log entry 5). -/
abbrev PageMap := List (Nat × Translation)

/-- Memory: bytes at 32-bit physical addresses (R50), addresses strictly rising. An unlisted address is undefined and
has no byte to read (R45, R60; log entry 4). -/
abbrev Memory := List Host.Cell

/-- The state of the machine: every piece that `10_state.md` and `20_memory.md` name (INVENTORY.md lists them). -/
structure State where
  regs : GRegs
  eip : Word32
  eflags : Word32
  cs : Segment
  ds : Segment
  es : Segment
  fs : Segment
  gs : Segment
  ss : Segment
  cpl : BitVec 2
  cr0 : Word32
  gdtr : Gdtr
  ldtr : Ldtr
  tr : Word16
  pages : PageMap
  mem : Memory
  deriving DecidableEq, Repr

/-- The exceptions of R220. -/
inductive ExceptionKind where
  /-- invalid opcode, `#UD` -/
  | ud
  /-- invalid TSS, `#TS`; only inside the refused task switch, so no operation raises it (R199, C8) -/
  | ts
  /-- segment not present, `#NP` -/
  | np
  /-- stack fault, `#SS` -/
  | ss
  /-- general protection, `#GP`; "Interrupt 13" in real-address mode (R221) -/
  | gp
  /-- page fault, `#PF` -/
  | pf
  deriving DecidableEq, Repr

/-- Why the machine stops. -/
inductive Fault where
  /-- An exception of R220, raised by any instruction as its rule says, with its error code (none in Real mode and for
  `#UD`) and the EIP of the instruction's first byte; nothing was written (R228). Delivery is out of scope (R4), so the
  run ends where the hardware would enter a handler: safe (log entry 17). -/
  | exception (kind : ExceptionKind) (code : Option Word32) (pc : Word32)
  /-- `ModelFault(UndefinedRead)`: a fetch, an operand read or a descriptor read met the byte of memory at `addr` that
  nothing has written (R45, R60, R230): safe (log entry 4). -/
  | undefinedRead (addr : Word32) (pc : Word32)
  deriving DecidableEq, Repr

/-- Why the model gives an instruction no meaning (R229). All are safe: the hardware goes on, the model stops. -/
inductive Refusal where
  /-- raised by an arm of exec whose instruction has no meaning yet; none is left -/
  | notModelled (mnemonic : String)
  /-- raised by the decoder for an opcode outside the source (R99, R100) -/
  | opcodeOutOfScope (pc : Word32)
  /-- raised by the decoder for LOCK, REP, REPNE, a repeated prefix byte, two segment overrides, or an override without
  a memory operand (R96, R97) -/
  | prefixNotModelled (pc : Word32)
  /-- raised by the decoder past `MAX_INSN_LEN` (R88), which never binds under R96 -/
  | instructionTooLong (pc : Word32)
  /-- raised by a far jump whose checks before `SWITCH-TASKS` all pass (R197) -/
  | taskSwitchNotModelled (pc : Word32)
  /-- raised by a far jump through a call gate whose size differs from `OperandSize` (R192, D26) -/
  | callGateSizeMismatch (pc : Word32)
  deriving DecidableEq, Repr

/-- What a step or a meaning answers. -/
abbrev Out := Host.Outcome State Fault Refusal

/-- A data or stack segment register after reset (R44; AR byte, D: log entry 1; unusable: log entry 2). -/
def Segment.resetData : Segment :=
  { selector := 0, base := 0, limit := 0xFFFF, ar := 0x93, d := false, unusable := false }

/-- CS after reset (R44; AR byte, D: log entry 1; unusable: log entry 2). The base is R44's FFFF0000H and not 16 times
the selector, as R252 item 1 asks of a launch state in Real mode: the model's choice, log entry 38. -/
def Segment.resetCode : Segment :=
  { selector := 0xF000, base := 0xFFFF0000, limit := 0xFFFF, ar := 0x93, d := false, unusable := false }

/-- The state after reset: the table of R44, taken as the spec allows as one particular `LaunchState` (R250; log
entries 1 and 2). Nothing is in memory (R60). It does not meet the launch premises of R252 items 1 and 4 (log entry
38). -/
def State.reset : State where
  regs := { eax := 0, ecx := 0, edx := 0x308, ebx := 0, esp := 0, ebp := 0, esi := 0, edi := 0 }
  eip := 0xFFF0
  eflags := 0x2
  cs := Segment.resetCode
  ds := Segment.resetData
  es := Segment.resetData
  fs := Segment.resetData
  gs := Segment.resetData
  ss := Segment.resetData
  cpl := 0
  cr0 := 0
  gdtr := { base := 0, limit := 0 }
  ldtr := { base := 0, limit := 0, usable := false }
  tr := 0
  pages := []
  mem := []

end Sys2Proof.Machine
end

