-- ==== Sys2Proof/Machine/Flags.lean ====
section
/-! DEFINITION. The status flags and the condition function (`40_jcc.md` R110), the flags that a compare sets (R150),
and the mode and the control bits it is read from (`10_state.md` R26, R27, R33, R34, R38). -/

namespace Sys2Proof.Machine

/-- The five status flags that conditional jumps read (R26). -/
structure StatusFlags where
  cf : Bool
  pf : Bool
  zf : Bool
  sf : Bool
  of : Bool
  deriving DecidableEq, Repr

/-- CF, bit 0 of EFLAGS (R27). -/
def State.cf (s : State) : Bool := s.eflags.getLsbD 0
/-- PF, bit 2 of EFLAGS (R27). -/
def State.pf (s : State) : Bool := s.eflags.getLsbD 2
/-- ZF, bit 6 of EFLAGS (R27). -/
def State.zf (s : State) : Bool := s.eflags.getLsbD 6
/-- SF, bit 7 of EFLAGS (R27). -/
def State.sf (s : State) : Bool := s.eflags.getLsbD 7
/-- TF, bit 8 of EFLAGS (R27, R238). -/
def State.tf (s : State) : Bool := s.eflags.getLsbD 8
/-- OF, bit 11 of EFLAGS (R27). -/
def State.of (s : State) : Bool := s.eflags.getLsbD 11
/-- VM, bit 17 of EFLAGS (R27, R34). -/
def State.vm (s : State) : Bool := s.eflags.getLsbD 17
/-- PE, bit 0 of CR0 (R33). -/
def State.pe (s : State) : Bool := s.cr0.getLsbD 0
/-- PG, bit 31 of CR0 (R33). -/
def State.pg (s : State) : Bool := s.cr0.getLsbD 31

/-- The five flags together (R26). -/
def State.flags (s : State) : StatusFlags :=
  { cf := s.cf, pf := s.pf, zf := s.zf, sf := s.sf, of := s.of }

/-- `Cond(cc)` (R110). The condition of `le` is "ZF=1 or SF<>OF": C1, D6. -/
def condHolds (c : Cond) (f : StatusFlags) : Bool :=
  match c with
  | .o => f.of
  | .no => !f.of
  | .b => f.cf
  | .ae => !f.cf
  | .e => f.zf
  | .ne => !f.zf
  | .be => f.cf || f.zf
  | .a => !f.cf && !f.zf
  | .s => f.sf
  | .ns => !f.sf
  | .p => f.pf
  | .np => !f.pf
  | .l => f.sf != f.of
  | .ge => f.sf == f.of
  | .le => f.zf || (f.sf != f.of)
  | .g => !f.zf && (f.sf == f.of)

/-- Whether the low 8 bits of a value hold an even number of 1 bits (R150). -/
def evenParity (v : Byte) : Bool :=
  !(v.getLsbD 0 ^^ v.getLsbD 1 ^^ v.getLsbD 2 ^^ v.getLsbD 3 ^^
    v.getLsbD 4 ^^ v.getLsbD 5 ^^ v.getLsbD 6 ^^ v.getLsbD 7)

/-- The flags after a compare of `a` with `b` at width `n`, as R150 gives them for a reader who writes test programs;
no instruction of the machine sets a flag. -/
def compareFlags {n : Nat} (a b : BitVec n) : StatusFlags where
  cf := a.ult b
  pf := evenParity ((a - b).setWidth 8)
  zf := a == b
  sf := (a - b).msb
  of := decide ((a - b).toInt ≠ a.toInt - b.toInt)

/-- The three modes (R38). -/
inductive Mode where
  | real
  | v86
  | prot
  deriving DecidableEq, Repr

/-- The mode as a function of PE and VM; PE = 0 with VM = 1 is Real (R38, D30). -/
def State.mode (s : State) : Mode :=
  if s.pe then (if s.vm then .v86 else .prot) else .real

/-- The default operand and address size: 32 only in Protected mode with `CS.D = 1` (R40, R41). -/
def State.defaultSize (s : State) : Size :=
  if s.mode = .prot ∧ s.cs.d = true then .w32 else .w16

/-- `OperandSize` of an instruction with the prefix bytes `p` (R40). -/
def State.operandSize (s : State) (p : Prefixes) : Size := p.operandSize s.defaultSize

end Sys2Proof.Machine
end

