-- ==== Sys2Proof/Machine/Ops.lean ====
section
/-! DEFINITION. The named operations of `00_scope.md` R7 over registers and memory: raising an exception
(`60_exceptions.md` R228), general and segment registers, `Translate`, `MemRead`, `SegRead` (`20_memory.md` R50 to
R58), and the jump step with its limit check. -/

namespace Sys2Proof.Machine

/-! ### Ending an instruction without a next state (R10, R228, R229) -/

/-- The two ways an instruction ends without completing (R10). -/
inductive Stop where
  | fault (f : Fault)
  | refused (r : Refusal)
  deriving DecidableEq, Repr

/-- The result of an operation that may end the instruction. -/
abbrev Res (α : Type) := Except Stop α

/-- The outcome of an instruction whose operations ended in `r`. -/
def finish (r : Res State) : Out :=
  match r with
  | .ok s => .next s
  | .error (.fault f) => .fault f
  | .error (.refused q) => .refused q

/-- `raise E(code)`: taking an exception. The outcome names the kind, the error code and the EIP of the instruction's
first byte, and nothing is written (R228, D8). The spec describes no entry into a handler and no return (R4, R232). -/
def raise {α : Type} (kind : ExceptionKind) (code : Option Word32) (s : State) : Res α :=
  .error (.fault (.exception kind code s.eip))

/-- The `#GP` of an offset beyond a limit: "Interrupt 13" without error code in Real mode, `#GP(0)` otherwise
(R221, R222). -/
def raiseOffsetGp {α : Type} (s : State) : Res α :=
  raise .gp (if s.mode = .real then none else some 0) s

/-- `ErrSel(sel)`: the selector with its RPL field cleared (R223, D20). -/
def errSel (sel : Word16) : Word32 := (sel &&& 0xFFFC).setWidth 32

/-- `raise E(ErrSel(sel))` (R223). -/
def raiseSel {α : Type} (kind : ExceptionKind) (sel : Word16) (s : State) : Res α :=
  raise kind (some (errSel sel)) s

/-- The vector number of an exception (R220). -/
def ExceptionKind.vector : ExceptionKind → Nat
  | .ud => 6
  | .ts => 10
  | .np => 11
  | .ss => 12
  | .gp => 13
  | .pf => 14

/-! ### Registers (R7, R20, R29) -/

/-- `x[i]` at 32 bits (R20). -/
def GRegs.get (g : GRegs) : GReg → Word32
  | .eax => g.eax | .ecx => g.ecx | .edx => g.edx | .ebx => g.ebx
  | .esp => g.esp | .ebp => g.ebp | .esi => g.esi | .edi => g.edi

/-- `x[i] <- v` (R7). No instruction of the machine writes a general register (R21). -/
def GRegs.set (g : GRegs) (r : GReg) (v : Word32) : GRegs :=
  match r with
  | .eax => { g with eax := v } | .ecx => { g with ecx := v }
  | .edx => { g with edx := v } | .ebx => { g with ebx := v }
  | .esp => { g with esp := v } | .ebp => { g with ebp := v }
  | .esi => { g with esi := v } | .edi => { g with edi := v }

/-- `x[i]` at 32 bits (R20). -/
def State.reg32 (s : State) (r : GReg) : Word32 := s.regs.get r

/-- `x[i]` at 16 bits: bits 15:0 of the register (R20). -/
def State.reg16 (s : State) (r : GReg) : Word16 := (s.regs.get r).setWidth 16

/-- The segment register of a name (R29). -/
def State.seg (s : State) : SReg → Segment
  | .cs => s.cs | .ds => s.ds | .es => s.es | .fs => s.fs | .gs => s.gs | .ss => s.ss

/-- `pc <- t` (R7). -/
def State.withEip (s : State) (t : Word32) : State := { s with eip := t }

/-- CS and EIP loaded together, as one update (R198, D8). -/
def State.withCsEip (s : State) (cs : Segment) (t : Word32) : State := { s with cs := cs, eip := t }

/-! ### Physical memory (R50, R60) -/

/-- The byte at a physical address; `none` where memory is undefined (R45, R60). -/
def Memory.read (m : Memory) (a : Nat) : Option Byte :=
  match m with
  | [] => none
  | (k, b) :: t => if k = a then some b else Memory.read t a

/-- One byte written, the canonical form kept. No instruction of the machine stores (R72); the launch state is built
with it. -/
def Memory.write (m : Memory) (a : Nat) (v : Byte) : Memory :=
  match m with
  | [] => [(a, v)]
  | (k, b) :: t =>
    if a < k then (a, v) :: (k, b) :: t
    else if a = k then (a, v) :: t
    else (k, b) :: Memory.write t a v

/-- The canonical form: addresses strictly rising, all of 32 bits (R50). -/
abbrev Memory.wf (m : Memory) : Prop :=
  m.Pairwise (fun x y => x.1 < y.1) ∧ ∀ c ∈ m, c.1 < 2 ^ 32

/-! ### Translation (R58) -/

/-- The entry of a linear address in `Translate`; unlisted, it is itself (D10). -/
def PageMap.find (m : PageMap) (lin : Word32) : Translation :=
  match m with
  | [] => .physical lin
  | (k, x) :: t => if k = lin.toNat then x else PageMap.find t lin

/-- The canonical form of `Translate`: addresses strictly rising, all of 32 bits, no entry that says what an unlisted
address says. -/
abbrev PageMap.wf (m : PageMap) : Prop :=
  m.Pairwise (fun x y => x.1 < y.1) ∧
    ∀ c ∈ m, c.1 < 2 ^ 32 ∧ c.2 ≠ .physical (BitVec.ofNat 32 c.1)

/-- `Translate(lin)`: the identity in Real mode, where no page fault arises, and with paging off (PG = 0); otherwise
the map of the state (R33, R58, D10; log entry 5). -/
def translateLinear (s : State) (lin : Word32) : Res Word32 :=
  if s.mode = .real ∨ s.pg = false then .ok lin
  else
    match PageMap.find s.pages lin with
    | .physical a => .ok a
    | .pageFault code => raise .pf (some code) s

/-! ### Reading memory (R51, R53, R55) -/

/-- The physical addresses of `n` bytes from `addr` on, each byte translated on its own, in order (R53, R55). -/
def translateRange (s : State) (addr : Word32) : Nat → Res (List Word32)
  | 0 => .ok []
  | n + 1 =>
    match translateLinear s addr with
    | .error e => .error e
    | .ok a =>
      match translateRange s (addr + 1) n with
      | .error e => .error e
      | .ok as => .ok (a :: as)

/-- The byte at a physical address; undefined memory is `ModelFault(UndefinedRead)` (R45, R230). -/
def readPhysical (s : State) (a : Word32) : Res Byte :=
  match Memory.read s.mem a.toNat with
  | some b => .ok b
  | none => .error (.fault (.undefinedRead a s.eip))

/-- The bytes at physical addresses, in order. -/
def readPhysicals (s : State) : List Word32 → Res (List Byte)
  | [] => .ok []
  | a :: as =>
    match readPhysical s a with
    | .error e => .error e
    | .ok b =>
      match readPhysicals s as with
      | .error e => .error e
      | .ok bs => .ok (b :: bs)

/-- The `n` bytes at linear address `addr`: first the page faults, byte by byte, then the reads (R55; log entry 26). -/
def readLinear (s : State) (addr : Word32) (n : Nat) : Res (List Byte) :=
  match translateRange s addr n with
  | .error e => .error e
  | .ok as => readPhysicals s as

/-- `MemRead(addr, n)` in `w` = `8n` bits, least significant byte at the lowest address (R53). -/
def memRead (s : State) (w : Nat) (addr : Word32) (n : Nat) : Res (BitVec w) :=
  match readLinear s addr n with
  | .error e => .error e
  | .ok bs => .ok (leWord w bs)

/-- `Lin(s, off) = (s.base + off) mod 2^32` (R51). -/
def lin (g : Segment) (off : Word32) : Word32 := g.base + off

/-- An AR byte that says execute-only code: S = 1, a code type, not readable (R55, R66). -/
def executeOnly (ar : Byte) : Bool := ar.getLsbD 4 && ar.getLsbD 3 && !ar.getLsbD 1

/-- An AR byte that says expand-down data: S = 1, a data type, type bit 2 set (R55, R66). -/
def expandDown (ar : Byte) : Bool := ar.getLsbD 4 && !ar.getLsbD 3 && ar.getLsbD 2

/-- "`s` is not usable for a read" (R55, D14; log entries 10 and 11). -/
def notReadable (g : Segment) : Bool := g.unusable || executeOnly g.ar || expandDown g.ar

/-- `SegRead(s, off, n)` in `w` = `8n` bits, with its checks in order (R55, D16). -/
def segRead (s : State) (w : Nat) (r : SReg) (off : Word32) (n : Nat) : Res (BitVec w) :=
  let last := off.toNat + (n - 1)
  if s.mode = .prot then
    if notReadable (s.seg r) = true ∨ (s.seg r).limit.toNat < last then
      raise (if r = .ss then .ss else .gp) (some 0) s
    else memRead s w (lin (s.seg r) off) n
  else if Config.realOffsetMax < last then raiseOffsetGp s
  else memRead s w (lin (s.seg r) off) n

/-! ### Jumping (R57, R111, R161) -/

/-- The mask of a target: with `OperandSize = 16` the upper 16 bits become 0 (R24, R112). -/
def maskTarget (w : Size) (t : Word32) : Word32 :=
  match w with
  | .w16 => t &&& 0x0000FFFF
  | .w32 => t

/-- A near jump to `t`: in Protected mode `#GP(0)` when `t` is beyond the code-segment limit, no check in Real and V86
mode (R57, R113, R162, D24). -/
def jumpNear (t : Word32) (s : State) : Res State :=
  if s.mode = .prot ∧ s.cs.limit < t then raise .gp (some 0) s else .ok (s.withEip t)

/-- `next`, the offset of the first byte after an instruction of `len` bytes (R23). -/
def State.nextEip (s : State) (len : Nat) : Word32 := s.eip + BitVec.ofNat 32 len

/-- The jump step of a relative jump of length `len`, taken or not (R111; with `taken` true, R161). -/
def jumpRelative (taken : Bool) (w : Size) (len : Nat) (disp : Word32) (s : State) : Res State :=
  if taken then jumpNear (maskTarget w (s.nextEip len + disp)) s
  else .ok (s.withEip (s.nextEip len))

end Sys2Proof.Machine
end

