-- ==== Sys2Proof/Machine/JccNear.lean ====
section
/-! DEFINITION. The near forms of `40_jcc.md`: thirty mnemonics on opcodes 0F 80 to 0F 8F, each with rel16 and with
rel32 (R132 to R147). -/

namespace Sys2Proof.Machine

/-- A near conditional jump with rel16: L = prefixes + 4, disp = sext_32(rel16), masked (R111, R132 to R147). -/
def nearJump16 (c : Cond) (p : Prefixes) (rel : Word16) (s : State) : Out :=
  finish (jumpRelative (condHolds c s.flags) .w16 (p.count + 4) (rel.signExtend 32) s)

/-- A near conditional jump with rel32: L = prefixes + 6, disp = rel32 (R111, R132 to R147). -/
def nearJump32 (c : Cond) (p : Prefixes) (rel : Word32) (s : State) : Out :=
  finish (jumpRelative (condHolds c s.flags) .w32 (p.count + 6) rel s)

/-- `JO rel16` (R132). -/
def execJoRel16 (p : Prefixes) (rel : Word16) (s : State) : Out :=
  nearJump16 .o p rel s

/-- `JO rel32` (R132). -/
def execJoRel32 (p : Prefixes) (rel : Word32) (s : State) : Out :=
  nearJump32 .o p rel s

/-- `JNO rel16` (R133). -/
def execJnoRel16 (p : Prefixes) (rel : Word16) (s : State) : Out :=
  nearJump16 .no p rel s

/-- `JNO rel32` (R133). -/
def execJnoRel32 (p : Prefixes) (rel : Word32) (s : State) : Out :=
  nearJump32 .no p rel s

/-- `JB rel16` (R134). -/
def execJbRel16 (p : Prefixes) (rel : Word16) (s : State) : Out :=
  nearJump16 .b p rel s

/-- `JB rel32` (R134). -/
def execJbRel32 (p : Prefixes) (rel : Word32) (s : State) : Out :=
  nearJump32 .b p rel s

/-- `JC rel16` (R134). -/
def execJcRel16 (p : Prefixes) (rel : Word16) (s : State) : Out :=
  nearJump16 .b p rel s

/-- `JC rel32` (R134). -/
def execJcRel32 (p : Prefixes) (rel : Word32) (s : State) : Out :=
  nearJump32 .b p rel s

/-- `JNAE rel16` (R134). -/
def execJnaeRel16 (p : Prefixes) (rel : Word16) (s : State) : Out :=
  nearJump16 .b p rel s

/-- `JNAE rel32` (R134). -/
def execJnaeRel32 (p : Prefixes) (rel : Word32) (s : State) : Out :=
  nearJump32 .b p rel s

/-- `JAE rel16` (R135). -/
def execJaeRel16 (p : Prefixes) (rel : Word16) (s : State) : Out :=
  nearJump16 .ae p rel s

/-- `JAE rel32` (R135). -/
def execJaeRel32 (p : Prefixes) (rel : Word32) (s : State) : Out :=
  nearJump32 .ae p rel s

/-- `JNB rel16` (R135). -/
def execJnbRel16 (p : Prefixes) (rel : Word16) (s : State) : Out :=
  nearJump16 .ae p rel s

/-- `JNB rel32` (R135). -/
def execJnbRel32 (p : Prefixes) (rel : Word32) (s : State) : Out :=
  nearJump32 .ae p rel s

/-- `JNC rel16` (R135). -/
def execJncRel16 (p : Prefixes) (rel : Word16) (s : State) : Out :=
  nearJump16 .ae p rel s

/-- `JNC rel32` (R135). -/
def execJncRel32 (p : Prefixes) (rel : Word32) (s : State) : Out :=
  nearJump32 .ae p rel s

/-- `JE rel16` (R136). -/
def execJeRel16 (p : Prefixes) (rel : Word16) (s : State) : Out :=
  nearJump16 .e p rel s

/-- `JE rel32` (R136). -/
def execJeRel32 (p : Prefixes) (rel : Word32) (s : State) : Out :=
  nearJump32 .e p rel s

/-- `JZ rel16` (R136). -/
def execJzRel16 (p : Prefixes) (rel : Word16) (s : State) : Out :=
  nearJump16 .e p rel s

/-- `JZ rel32` (R136). -/
def execJzRel32 (p : Prefixes) (rel : Word32) (s : State) : Out :=
  nearJump32 .e p rel s

/-- `JNE rel16` (R137). -/
def execJneRel16 (p : Prefixes) (rel : Word16) (s : State) : Out :=
  nearJump16 .ne p rel s

/-- `JNE rel32` (R137). -/
def execJneRel32 (p : Prefixes) (rel : Word32) (s : State) : Out :=
  nearJump32 .ne p rel s

/-- `JNZ rel16` (R137). -/
def execJnzRel16 (p : Prefixes) (rel : Word16) (s : State) : Out :=
  nearJump16 .ne p rel s

/-- `JNZ rel32` (R137). -/
def execJnzRel32 (p : Prefixes) (rel : Word32) (s : State) : Out :=
  nearJump32 .ne p rel s

/-- `JBE rel16` (R138). -/
def execJbeRel16 (p : Prefixes) (rel : Word16) (s : State) : Out :=
  nearJump16 .be p rel s

/-- `JBE rel32` (R138). -/
def execJbeRel32 (p : Prefixes) (rel : Word32) (s : State) : Out :=
  nearJump32 .be p rel s

/-- `JNA rel16` (R138). -/
def execJnaRel16 (p : Prefixes) (rel : Word16) (s : State) : Out :=
  nearJump16 .be p rel s

/-- `JNA rel32` (R138). -/
def execJnaRel32 (p : Prefixes) (rel : Word32) (s : State) : Out :=
  nearJump32 .be p rel s

/-- `JA rel16` (R139). -/
def execJaRel16 (p : Prefixes) (rel : Word16) (s : State) : Out :=
  nearJump16 .a p rel s

/-- `JA rel32` (R139). -/
def execJaRel32 (p : Prefixes) (rel : Word32) (s : State) : Out :=
  nearJump32 .a p rel s

/-- `JNBE rel16` (R139). -/
def execJnbeRel16 (p : Prefixes) (rel : Word16) (s : State) : Out :=
  nearJump16 .a p rel s

/-- `JNBE rel32` (R139). -/
def execJnbeRel32 (p : Prefixes) (rel : Word32) (s : State) : Out :=
  nearJump32 .a p rel s

/-- `JS rel16` (R140). -/
def execJsRel16 (p : Prefixes) (rel : Word16) (s : State) : Out :=
  nearJump16 .s p rel s

/-- `JS rel32` (R140). -/
def execJsRel32 (p : Prefixes) (rel : Word32) (s : State) : Out :=
  nearJump32 .s p rel s

/-- `JNS rel16` (R141). -/
def execJnsRel16 (p : Prefixes) (rel : Word16) (s : State) : Out :=
  nearJump16 .ns p rel s

/-- `JNS rel32` (R141). -/
def execJnsRel32 (p : Prefixes) (rel : Word32) (s : State) : Out :=
  nearJump32 .ns p rel s

/-- `JP rel16` (R142). -/
def execJpRel16 (p : Prefixes) (rel : Word16) (s : State) : Out :=
  nearJump16 .p p rel s

/-- `JP rel32` (R142). -/
def execJpRel32 (p : Prefixes) (rel : Word32) (s : State) : Out :=
  nearJump32 .p p rel s

/-- `JPE rel16` (R142). -/
def execJpeRel16 (p : Prefixes) (rel : Word16) (s : State) : Out :=
  nearJump16 .p p rel s

/-- `JPE rel32` (R142). -/
def execJpeRel32 (p : Prefixes) (rel : Word32) (s : State) : Out :=
  nearJump32 .p p rel s

/-- `JNP rel16` (R143). -/
def execJnpRel16 (p : Prefixes) (rel : Word16) (s : State) : Out :=
  nearJump16 .np p rel s

/-- `JNP rel32` (R143). -/
def execJnpRel32 (p : Prefixes) (rel : Word32) (s : State) : Out :=
  nearJump32 .np p rel s

/-- `JPO rel16` (R143). -/
def execJpoRel16 (p : Prefixes) (rel : Word16) (s : State) : Out :=
  nearJump16 .np p rel s

/-- `JPO rel32` (R143). -/
def execJpoRel32 (p : Prefixes) (rel : Word32) (s : State) : Out :=
  nearJump32 .np p rel s

/-- `JL rel16` (R144). -/
def execJlRel16 (p : Prefixes) (rel : Word16) (s : State) : Out :=
  nearJump16 .l p rel s

/-- `JL rel32` (R144). -/
def execJlRel32 (p : Prefixes) (rel : Word32) (s : State) : Out :=
  nearJump32 .l p rel s

/-- `JNGE rel16` (R144). -/
def execJngeRel16 (p : Prefixes) (rel : Word16) (s : State) : Out :=
  nearJump16 .l p rel s

/-- `JNGE rel32` (R144). -/
def execJngeRel32 (p : Prefixes) (rel : Word32) (s : State) : Out :=
  nearJump32 .l p rel s

/-- `JGE rel16` (R145). -/
def execJgeRel16 (p : Prefixes) (rel : Word16) (s : State) : Out :=
  nearJump16 .ge p rel s

/-- `JGE rel32` (R145). -/
def execJgeRel32 (p : Prefixes) (rel : Word32) (s : State) : Out :=
  nearJump32 .ge p rel s

/-- `JNL rel16` (R145). -/
def execJnlRel16 (p : Prefixes) (rel : Word16) (s : State) : Out :=
  nearJump16 .ge p rel s

/-- `JNL rel32` (R145). -/
def execJnlRel32 (p : Prefixes) (rel : Word32) (s : State) : Out :=
  nearJump32 .ge p rel s

/-- `JLE rel16` (R146): "ZF=1 or SF<>OF", C1. -/
def execJleRel16 (p : Prefixes) (rel : Word16) (s : State) : Out :=
  nearJump16 .le p rel s

/-- `JLE rel32` (R146): "ZF=1 or SF<>OF", C1. -/
def execJleRel32 (p : Prefixes) (rel : Word32) (s : State) : Out :=
  nearJump32 .le p rel s

/-- `JNG rel16` (R146). -/
def execJngRel16 (p : Prefixes) (rel : Word16) (s : State) : Out :=
  nearJump16 .le p rel s

/-- `JNG rel32` (R146). -/
def execJngRel32 (p : Prefixes) (rel : Word32) (s : State) : Out :=
  nearJump32 .le p rel s

/-- `JG rel16` (R147). -/
def execJgRel16 (p : Prefixes) (rel : Word16) (s : State) : Out :=
  nearJump16 .g p rel s

/-- `JG rel32` (R147). -/
def execJgRel32 (p : Prefixes) (rel : Word32) (s : State) : Out :=
  nearJump32 .g p rel s

/-- `JNLE rel16` (R147). -/
def execJnleRel16 (p : Prefixes) (rel : Word16) (s : State) : Out :=
  nearJump16 .g p rel s

/-- `JNLE rel32` (R147). -/
def execJnleRel32 (p : Prefixes) (rel : Word32) (s : State) : Out :=
  nearJump32 .g p rel s

end Sys2Proof.Machine
end

