-- ==== Sys2Proof/Machine/JccShort.lean ====
section
/-! DEFINITION. The short forms of `40_jcc.md`: thirty flag-testing mnemonics on opcodes 70 to 7F (R114 to R129), and
JCXZ, JECXZ (R130, R131). -/

namespace Sys2Proof.Machine

/-- A short conditional jump: the jump step with L = prefixes + 2 and disp = sext_32(d8) (R111, R114 to R131). -/
def shortJump (taken : Bool) (p : Prefixes) (d8 : Byte) (s : State) : Out :=
  finish (jumpRelative taken (s.operandSize p) (p.count + 2) (d8.signExtend 32) s)

/-- `JO rel8` (R114). -/
def execJoRel8 (p : Prefixes) (d8 : Byte) (s : State) : Out :=
  shortJump (condHolds .o s.flags) p d8 s

/-- `JNO rel8` (R115). -/
def execJnoRel8 (p : Prefixes) (d8 : Byte) (s : State) : Out :=
  shortJump (condHolds .no s.flags) p d8 s

/-- `JB rel8` (R116). -/
def execJbRel8 (p : Prefixes) (d8 : Byte) (s : State) : Out :=
  shortJump (condHolds .b s.flags) p d8 s

/-- `JC rel8` (R116). -/
def execJcRel8 (p : Prefixes) (d8 : Byte) (s : State) : Out :=
  shortJump (condHolds .b s.flags) p d8 s

/-- `JNAE rel8` (R116). -/
def execJnaeRel8 (p : Prefixes) (d8 : Byte) (s : State) : Out :=
  shortJump (condHolds .b s.flags) p d8 s

/-- `JAE rel8` (R117). -/
def execJaeRel8 (p : Prefixes) (d8 : Byte) (s : State) : Out :=
  shortJump (condHolds .ae s.flags) p d8 s

/-- `JNB rel8` (R117). -/
def execJnbRel8 (p : Prefixes) (d8 : Byte) (s : State) : Out :=
  shortJump (condHolds .ae s.flags) p d8 s

/-- `JNC rel8` (R117). -/
def execJncRel8 (p : Prefixes) (d8 : Byte) (s : State) : Out :=
  shortJump (condHolds .ae s.flags) p d8 s

/-- `JE rel8` (R118). -/
def execJeRel8 (p : Prefixes) (d8 : Byte) (s : State) : Out :=
  shortJump (condHolds .e s.flags) p d8 s

/-- `JZ rel8` (R118). -/
def execJzRel8 (p : Prefixes) (d8 : Byte) (s : State) : Out :=
  shortJump (condHolds .e s.flags) p d8 s

/-- `JNE rel8` (R119). -/
def execJneRel8 (p : Prefixes) (d8 : Byte) (s : State) : Out :=
  shortJump (condHolds .ne s.flags) p d8 s

/-- `JNZ rel8` (R119). -/
def execJnzRel8 (p : Prefixes) (d8 : Byte) (s : State) : Out :=
  shortJump (condHolds .ne s.flags) p d8 s

/-- `JBE rel8` (R120). -/
def execJbeRel8 (p : Prefixes) (d8 : Byte) (s : State) : Out :=
  shortJump (condHolds .be s.flags) p d8 s

/-- `JNA rel8` (R120). -/
def execJnaRel8 (p : Prefixes) (d8 : Byte) (s : State) : Out :=
  shortJump (condHolds .be s.flags) p d8 s

/-- `JA rel8` (R121). -/
def execJaRel8 (p : Prefixes) (d8 : Byte) (s : State) : Out :=
  shortJump (condHolds .a s.flags) p d8 s

/-- `JNBE rel8` (R121). -/
def execJnbeRel8 (p : Prefixes) (d8 : Byte) (s : State) : Out :=
  shortJump (condHolds .a s.flags) p d8 s

/-- `JS rel8` (R122). -/
def execJsRel8 (p : Prefixes) (d8 : Byte) (s : State) : Out :=
  shortJump (condHolds .s s.flags) p d8 s

/-- `JNS rel8` (R123). -/
def execJnsRel8 (p : Prefixes) (d8 : Byte) (s : State) : Out :=
  shortJump (condHolds .ns s.flags) p d8 s

/-- `JP rel8` (R124). -/
def execJpRel8 (p : Prefixes) (d8 : Byte) (s : State) : Out :=
  shortJump (condHolds .p s.flags) p d8 s

/-- `JPE rel8` (R124). -/
def execJpeRel8 (p : Prefixes) (d8 : Byte) (s : State) : Out :=
  shortJump (condHolds .p s.flags) p d8 s

/-- `JNP rel8` (R125). -/
def execJnpRel8 (p : Prefixes) (d8 : Byte) (s : State) : Out :=
  shortJump (condHolds .np s.flags) p d8 s

/-- `JPO rel8` (R125). -/
def execJpoRel8 (p : Prefixes) (d8 : Byte) (s : State) : Out :=
  shortJump (condHolds .np s.flags) p d8 s

/-- `JL rel8` (R126). -/
def execJlRel8 (p : Prefixes) (d8 : Byte) (s : State) : Out :=
  shortJump (condHolds .l s.flags) p d8 s

/-- `JNGE rel8` (R126). -/
def execJngeRel8 (p : Prefixes) (d8 : Byte) (s : State) : Out :=
  shortJump (condHolds .l s.flags) p d8 s

/-- `JGE rel8` (R127). -/
def execJgeRel8 (p : Prefixes) (d8 : Byte) (s : State) : Out :=
  shortJump (condHolds .ge s.flags) p d8 s

/-- `JNL rel8` (R127). -/
def execJnlRel8 (p : Prefixes) (d8 : Byte) (s : State) : Out :=
  shortJump (condHolds .ge s.flags) p d8 s

/-- `JLE rel8` (R128): "ZF=1 or SF<>OF", C1. -/
def execJleRel8 (p : Prefixes) (d8 : Byte) (s : State) : Out :=
  shortJump (condHolds .le s.flags) p d8 s

/-- `JNG rel8` (R128). -/
def execJngRel8 (p : Prefixes) (d8 : Byte) (s : State) : Out :=
  shortJump (condHolds .le s.flags) p d8 s

/-- `JG rel8` (R129). -/
def execJgRel8 (p : Prefixes) (d8 : Byte) (s : State) : Out :=
  shortJump (condHolds .g s.flags) p d8 s

/-- `JNLE rel8` (R129). -/
def execJnleRel8 (p : Prefixes) (d8 : Byte) (s : State) : Out :=
  shortJump (condHolds .g s.flags) p d8 s

/-- `JCXZ rel8` (R130): CX is tested, whatever the upper half of ECX. -/
def execJcxzRel8 (p : Prefixes) (d8 : Byte) (s : State) : Out :=
  shortJump (s.reg16 .ecx == 0) p d8 s

/-- `JECXZ rel8` (R131): all 32 bits of ECX are tested. -/
def execJecxzRel8 (p : Prefixes) (d8 : Byte) (s : State) : Out :=
  shortJump (s.reg32 .ecx == 0) p d8 s

end Sys2Proof.Machine
end

