-- ==== Sys2Proof/Machine/Descriptors.lean ====
section
/-! DEFINITION. Selectors, descriptor tables and descriptors: `20_memory.md` R62 to R69. All of these formats are the
spec's general knowledge (log entry 35). -/

namespace Sys2Proof.Machine

/-! ### Selectors (R62, R63) -/

/-- `SelRPL(sel) = sel[1:0]` (R62). -/
def selRpl (sel : Word16) : BitVec 2 := sel.extractLsb' 0 2

/-- `SelTI(sel) = sel[2]`, the "local/global bit": true = local (R62). -/
def selLocal (sel : Word16) : Bool := sel.getLsbD 2

/-- `SelIndex(sel) = sel[15:3]` (R62). -/
def selIndex (sel : Word16) : Nat := (sel.extractLsb' 3 13).toNat

/-- `IsNull(sel)` (R63, D29). -/
def isNull (sel : Word16) : Bool := (sel &&& 0xFFFC) == 0

/-! ### Descriptor tables (R35, R64) -/

/-- The base of `Table(sel)` (R64). -/
def tableBase (s : State) (sel : Word16) : Word32 :=
  if selLocal sel then s.ldtr.base else s.gdtr.base

/-- The limit of `Table(sel)` (R64). -/
def tableLimit (s : State) (sel : Word16) : Nat :=
  if selLocal sel then s.ldtr.limit.toNat else s.gdtr.limit.toNat

/-- `InTable(sel)`; false for a local selector when LDTR holds no usable table (R64). -/
def inTable (s : State) (sel : Word16) : Bool :=
  (!selLocal sel || s.ldtr.usable) && decide (selIndex sel * 8 + 7 ≤ tableLimit s sel)

/-- `ReadDescriptor(sel)`, made whatever the CPL and through `Translate` (R64). -/
def readDescriptor (s : State) (sel : Word16) : Res (BitVec 64) :=
  memRead s 64 (tableBase s sel + BitVec.ofNat 32 (selIndex sel * 8)) 8

/-! ### Descriptor fields (R65 to R67) -/

/-- `Base(d) = d[63:56] ++ d[39:16]` (R65). -/
def descBase (d : BitVec 64) : Word32 := d.extractLsb' 56 8 ++ d.extractLsb' 16 24

/-- `RawLimit(d) = d[51:48] ++ d[15:0]` (R65). -/
def descRawLimit (d : BitVec 64) : BitVec 20 := d.extractLsb' 48 4 ++ d.extractLsb' 0 16

/-- `Limit(d)`: the last valid offset, scaled by the granularity bit 55 (R65). -/
def descLimit (d : BitVec 64) : Word32 :=
  if d.getLsbD 55 then (descRawLimit d).setWidth 32 * 4096 + 4095 else (descRawLimit d).setWidth 32

/-- The AR byte, `d[47:40]` (R65, R66). -/
def descAr (d : BitVec 64) : Byte := d.extractLsb' 40 8

/-- The default-size bit D, `d[54]` (R65). -/
def descD (d : BitVec 64) : Bool := d.getLsbD 54

/-- `Present(d) = ar[7]` (R66). -/
def descPresent (d : BitVec 64) : Bool := (descAr d).getLsbD 7

/-- `DPL(d) = ar[6:5]` (R66). -/
def descDpl (d : BitVec 64) : BitVec 2 := (descAr d).extractLsb' 5 2

/-- The kinds of destination that an AR byte names (R66). -/
inductive Kind where
  | conformingCode
  | nonconformingCode
  | data
  | callGate16
  | callGate32
  | taskGate
  | availTss16
  | availTss32
  | busyTss16
  | busyTss32
  | other
  deriving DecidableEq, Repr

/-- `Kind(d)` of an AR byte: S is bit 4, the type bits 3:0 (R66, C5, D18). -/
def kindOfAr (ar : Byte) : Kind :=
  if ar.getLsbD 4 then
    if ar.getLsbD 3 then (if ar.getLsbD 2 then .conformingCode else .nonconformingCode) else .data
  else
    match (ar.extractLsb' 0 4).toNat with
    | 0x1 => .availTss16
    | 0x3 => .busyTss16
    | 0x4 => .callGate16
    | 0x5 => .taskGate
    | 0x9 => .availTss32
    | 0xB => .busyTss32
    | 0xC => .callGate32
    | _ => .other

/-- `Kind(d)` (R66). -/
def descKind (d : BitVec 64) : Kind := kindOfAr (descAr d)

/-- `GateSelector(d) = d[31:16]` (R67). -/
def gateSelector (d : BitVec 64) : Word16 := d.extractLsb' 16 16

/-- `GateOffset(d)`: 32 bits of a 386 call gate, the low 16 zero-extended of a 286 one (R67). -/
def gateOffset (d : BitVec 64) : Word32 :=
  match descKind d with
  | .callGate16 => (d.extractLsb' 0 16).setWidth 32
  | _ => d.extractLsb' 48 16 ++ d.extractLsb' 0 16

/-- The size of a call gate, by its kind (R192); `none` for any other descriptor. -/
def gateSize : Kind → Option Size
  | .callGate16 => some .w16
  | .callGate32 => some .w32
  | _ => none

/-- An available TSS of either kind (C5, D18). -/
def Kind.isAvailTss : Kind → Bool
  | .availTss16 | .availTss32 => true
  | _ => false

/-! ### Loading CS (R31, R69) -/

/-- CS after "Load CS register with new segment descriptor": RPL field equal to CPL, hidden copy from `d`. The accessed
bit in memory is not written (R69, R31, D25, D27; log entry 13). -/
def loadedCs (cpl : BitVec 2) (sel : Word16) (d : BitVec 64) : Segment where
  selector := (sel &&& 0xFFFC) ||| cpl.setWidth 16
  base := descBase d
  limit := descLimit d
  ar := descAr d
  d := descD d
  unusable := false

end Sys2Proof.Machine
end

