-- ==== Sys2Proof/Machine/FarTransfer.lean ====
section
/-! DEFINITION. What a far jump does with its long pointer: `42_jmp_far.md` R184 to R198, in the order of the source's
Operation section, the first failing check being the one reported (R226, D8). -/

namespace Sys2Proof.Machine

/-- Far jump in Real and V86 mode: the pointer is loaded, `CS.base` is 16 times the selector, the rest of the hidden
copy stays (R185, R52, D15). -/
def farReal (sel : Word16) (off : Word32) (s : State) : State :=
  s.withCsEip { s.cs with selector := sel, base := sel.setWidth 32 * 16 } off

/-- The end of every completed far jump in Protected mode: the offset against the limit of the NEW segment, then CS and
EIP loaded together (R57, R69, R198). -/
def enterSegment (sel : Word16) (d : BitVec 64) (off : Word32) (s : State) : Res State :=
  if descLimit d < off then raise .gp (some 0) s
  else .ok (s.withCsEip (loadedCs s.cpl sel d) off)

/-- CONFORMING-CODE-SEGMENT (R189; the sign of the DPL check: R195). -/
def farConforming (sel : Word16) (off : Word32) (d : BitVec 64) (s : State) : Res State :=
  if ¬ descDpl d ≤ s.cpl then raiseSel .gp sel s
  else if descPresent d = false then raiseSel .np sel s
  else enterSegment sel d off s

/-- NONCONFORMING-CODE-SEGMENT (R190; the sign of the RPL check: R195). -/
def farNonconforming (sel : Word16) (off : Word32) (d : BitVec 64) (s : State) : Res State :=
  if ¬ selRpl sel ≤ s.cpl then raiseSel .gp sel s
  else if descDpl d ≠ s.cpl then raiseSel .gp sel s
  else if descPresent d = false then raiseSel .np sel s
  else enterSegment sel d off s

/-- The offset taken from a call gate, 32 or 16 bits by `OperandSize` (R192). -/
def gateTarget (w : Size) (gate : BitVec 64) : Word32 :=
  match w with
  | .w32 => gateOffset gate
  | .w16 => ((gateOffset gate).setWidth 16).setWidth 32

/-- CALL-GATE, "Examine selector to code segment given in call gate descriptor", with the code segment's descriptor `c`
read (R192, C3). A gate of the other size is refused (D26; log entry 14). -/
def farGateSegment (w : Size) (gate : BitVec 64) (c : BitVec 64) (s : State) : Res State :=
  let csel := gateSelector gate
  if descKind c ≠ .conformingCode ∧ descKind c ≠ .nonconformingCode then raiseSel .gp csel s
  else if descKind c = .nonconformingCode ∧ descDpl c ≠ s.cpl then raiseSel .gp csel s
  else if descKind c = .conformingCode ∧ ¬ descDpl c ≤ s.cpl then raiseSel .gp csel s
  else if descPresent c = false then raiseSel .np csel s
  else if gateSize (descKind gate) ≠ some w then .error (.refused (.callGateSizeMismatch s.eip))
  else enterSegment csel c (gateTarget w gate) s

/-- CALL-GATE: the gate itself, then its code selector; the offset of the jump's own pointer is not used (R191, R192;
signs: R195). -/
def farCallGate (w : Size) (sel : Word16) (gate : BitVec 64) (s : State) : Res State :=
  let csel := gateSelector gate
  if ¬ s.cpl ≤ descDpl gate then raiseSel .gp sel s
  else if ¬ selRpl sel ≤ descDpl gate then raiseSel .gp sel s
  else if descPresent gate = false then raiseSel .np sel s
  else if isNull csel = true then raise .gp (some 0) s
  else if inTable s csel = false then raiseSel .gp csel s
  else
    match readDescriptor s csel with
    | .error e => .error e
    | .ok c => farGateSegment w gate c s

/-- `SWITCH-TASKS (without nesting) to TSS`: refused, no source defines it (R197, D9; log entry 15). -/
def switchTasks (s : State) : Res State := .error (.refused (.taskSwitchNotModelled s.eip))

/-- TASK-GATE (R193; signs: R195). A null TSS selector is not checked for (U16; log entry 34). -/
def farTaskGate (sel : Word16) (gate : BitVec 64) (s : State) : Res State :=
  let tsel := gateSelector gate
  if ¬ s.cpl ≤ descDpl gate then raiseSel .gp sel s
  else if ¬ selRpl sel ≤ descDpl gate then raiseSel .gp sel s
  else if descPresent gate = false then raiseSel .np sel s
  else if selLocal tsel = true then raiseSel .gp tsel s
  else if inTable s tsel = false then raiseSel .gp tsel s
  else
    match readDescriptor s tsel with
    | .error e => .error e
    | .ok t =>
      if (descKind t).isAvailTss = false then raiseSel .gp tsel s
      else if descPresent t = false then raiseSel .np tsel s
      else switchTasks s

/-- TASK-STATE-SEGMENT (R194; signs: R195). -/
def farTss (sel : Word16) (d : BitVec 64) (s : State) : Res State :=
  if ¬ s.cpl ≤ descDpl d then raiseSel .gp sel s
  else if ¬ selRpl sel ≤ descDpl d then raiseSel .gp sel s
  else if (descKind d).isAvailTss = false then raiseSel .gp sel s
  else if descPresent d = false then raiseSel .np sel s
  else switchTasks s

/-- Dispatch on the AR byte of the destination descriptor (R187, R188). -/
def farDispatch (w : Size) (sel : Word16) (off : Word32) (d : BitVec 64) (s : State) : Res State :=
  match descKind d with
  | .conformingCode => farConforming sel off d s
  | .nonconformingCode => farNonconforming sel off d s
  | .callGate16 | .callGate32 => farCallGate w sel d s
  | .taskGate => farTaskGate sel d s
  | .availTss16 | .availTss32 | .busyTss16 | .busyTss32 => farTss sel d s
  | .data | .other => raiseSel .gp sel s

/-- Far jump in Protected mode, entry (R186). -/
def farProtected (w : Size) (sel : Word16) (off : Word32) (s : State) : Res State :=
  if isNull sel = true then raise .gp (some 0) s
  else if inTable s sel = false then raiseSel .gp sel s
  else
    match readDescriptor s sel with
    | .error e => .error e
    | .ok d => farDispatch w sel off d s

/-- What a far jump does with its long pointer, by the mode (R184). -/
def farJump (w : Size) (sel : Word16) (off : Word32) (s : State) : Res State :=
  if s.mode = .prot then farProtected w sel off s else .ok (farReal sel off s)

end Sys2Proof.Machine
end

