-- ==== Sys2Proof/Machine/Operands.lean ====
section
/-! DEFINITION. The operand forms: effective addresses (`30_encoding.md` R92, R93), the segment of a memory operand
(R94), and the ModRM operand read as r/m16, r/m32, m16:16 or m16:32 (`41_jmp_near.md` R168, `42_jmp_far.md` R182). -/

namespace Sys2Proof.Machine

/-- The sum of registers of a 16-bit address form (R92). -/
def base16Value (s : State) : Base16 → Word16
  | .bxSi => s.reg16 .ebx + s.reg16 .esi
  | .bxDi => s.reg16 .ebx + s.reg16 .edi
  | .bpSi => s.reg16 .ebp + s.reg16 .esi
  | .bpDi => s.reg16 .ebp + s.reg16 .edi
  | .si => s.reg16 .esi
  | .di => s.reg16 .edi
  | .bp => s.reg16 .ebp
  | .bx => s.reg16 .ebx

/-- The displacement of a 16-bit address form; `disp8` is sign-extended to 16 bits (R92). -/
def disp16Value : Disp16 → Word16
  | .none => 0
  | .d8 v => v.signExtend 16
  | .d16 v => v

/-- The displacement of a 32-bit address form; `disp8` is sign-extended to 32 bits (R93). -/
def disp32Value : Disp32 → Word32
  | .none => 0
  | .d8 v => v.signExtend 32
  | .d32 v => v

/-- The offset of a 16-bit address form: the sum modulo `2^16`, zero-extended (R92). -/
def mem16Offset (s : State) (m : Mem16) : Word32 :=
  match m with
  | .direct d => d.setWidth 32
  | .based b d => (base16Value s b + disp16Value d).setWidth 32

/-- `I * 2^scale` (R93). -/
def scaledIndex (s : State) (scale : Scale) (index : Option GReg) : Word32 :=
  let i : Word32 := match index with
    | none => 0
    | some r => s.reg32 r
  match scale with
  | .x1 => i
  | .x2 => i * 2
  | .x4 => i * 4
  | .x8 => i * 8

/-- The offset of a 32-bit address form, modulo `2^32` (R93). -/
def mem32Offset (s : State) (m : Mem32) : Word32 :=
  match m with
  | .direct d => d
  | .based r d => s.reg32 r + disp32Value d
  | .sib sc x b d => s.reg32 b + scaledIndex s sc x + disp32Value d
  | .sibNoBase sc x d => scaledIndex s sc x + d

/-- The default segment of a 16-bit address form: SS with BP, else DS (R92). -/
def mem16Segment (m : Mem16) : SReg :=
  match m with
  | .direct _ => .ds
  | .based b _ =>
    match b with
    | .bpSi | .bpDi | .bp => .ss
    | .bxSi | .bxDi | .si | .di | .bx => .ds

/-- The default segment of a base register: SS for ESP and EBP, else DS (R93). -/
def baseSegment (r : GReg) : SReg := if r = .esp ∨ r = .ebp then .ss else .ds

/-- The default segment of a 32-bit address form (R93). -/
def mem32Segment (m : Mem32) : SReg :=
  match m with
  | .direct _ => .ds
  | .based r _ => baseSegment r
  | .sib _ _ b _ => baseSegment b
  | .sibNoBase _ _ _ => .ds

/-- The segment of a memory operand: the override, or the default (R94). -/
def operandSegment (p : Prefixes) (dflt : SReg) : SReg := p.seg.getD dflt

/-- A ModRM operand of `n` bytes, `w` = `8n` bits: `ofReg` for a register, `SegRead` at the effective address and
segment for a memory operand (R91 to R94, R168). -/
def readRm (p : Prefixes) (rm : RegMem) (w n : Nat) (ofReg : GReg → Res (BitVec w)) (s : State) :
    Res (BitVec w) :=
  match rm with
  | .reg r => ofReg r
  | .mem16 m => segRead s w (operandSegment p (mem16Segment m)) (mem16Offset s m) n
  | .mem32 m => segRead s w (operandSegment p (mem32Segment m)) (mem32Offset s m) n

/-- `r/m16`: a 16-bit register or 2 bytes of memory (R168). -/
def readRm16 (p : Prefixes) (rm : RegMem) (s : State) : Res Word16 :=
  readRm p rm 16 2 (fun r => .ok (s.reg16 r)) s

/-- `r/m32`: a 32-bit register or 4 bytes of memory (R168). -/
def readRm32 (p : Prefixes) (rm : RegMem) (s : State) : Res Word32 :=
  readRm p rm 32 4 (fun r => .ok (s.reg32 r)) s

/-- A far pointer in memory; a register operand is no instruction and raises `#UD` (R98, R182, R183). -/
def readFarPointer (p : Prefixes) (rm : RegMem) (w n : Nat) (s : State) : Res (BitVec w) :=
  readRm p rm w n (fun _ => raise .ud none s) s

end Sys2Proof.Machine
end

