-- ==== Sys2Proof/Machine/JmpFar.lean ====
section
/-! DEFINITION. The far forms of JMP: `42_jmp_far.md` R180 to R183. The prefix bytes of the direct forms play no part
in their meaning. -/

namespace Sys2Proof.Machine

/-- `JMP ptr16:16` (R180): the offset is zero-extended. -/
def execJmpPtr16x16 (_p : Prefixes) (off sel : Word16) (s : State) : Out :=
  finish (farJump .w16 sel (off.setWidth 32) s)

/-- `JMP ptr16:32` (R181). -/
def execJmpPtr16x32 (_p : Prefixes) (off : Word32) (sel : Word16) (s : State) : Out :=
  finish (farJump .w32 sel off s)

/-- `JMP m16:16` (R182): 4 bytes of memory, offset then selector (R75); the operand is read before any check on the
selector. -/
def execJmpM16x16 (p : Prefixes) (rm : RegMem) (s : State) : Out :=
  match readFarPointer p rm 32 4 s with
  | .error e => finish (.error e)
  | .ok v => finish (farJump .w16 (v.extractLsb' 16 16) ((v.extractLsb' 0 16).setWidth 32) s)

/-- `JMP m16:32` (R183): 6 bytes of memory, offset then selector (R75, C7). -/
def execJmpM16x32 (p : Prefixes) (rm : RegMem) (s : State) : Out :=
  match readFarPointer p rm 48 6 s with
  | .error e => finish (.error e)
  | .ok v => finish (farJump .w32 (v.extractLsb' 32 16) (v.extractLsb' 0 32) s)

end Sys2Proof.Machine
end

