-- ==== Sys2Proof/Machine/JmpNear.lean ====
section
/-! DEFINITION. The near forms of JMP: `41_jmp_near.md` R163 to R167. -/

namespace Sys2Proof.Machine

/-- `JMP rel8` (R163): the relative jump step with L = prefixes + 2; the displacement is sign-extended (C2, D5). -/
def execJmpRel8 (p : Prefixes) (d8 : Byte) (s : State) : Out :=
  finish (jumpRelative true (s.operandSize p) (p.count + 2) (d8.signExtend 32) s)

/-- `JMP rel16` (R164): L = prefixes + 3, "the upper 16 bits of EIP are cleared". -/
def execJmpRel16 (p : Prefixes) (rel : Word16) (s : State) : Out :=
  finish (jumpRelative true .w16 (p.count + 3) (rel.signExtend 32) s)

/-- `JMP rel32` (R165): L = prefixes + 5, no mask. -/
def execJmpRel32 (p : Prefixes) (rel : Word32) (s : State) : Out :=
  finish (jumpRelative true .w32 (p.count + 5) rel s)

/-- A near indirect jump to the offset `v` read from the operand, or the operand's own exception (R166 to R168). -/
def jumpIndirect (v : Res Word32) (s : State) : Out :=
  match v with
  | .error e => finish (.error e)
  | .ok t => finish (jumpNear t s)

/-- `JMP r/m16` (R166): the 16-bit offset is zero-extended. -/
def execJmpRm16 (p : Prefixes) (rm : RegMem) (s : State) : Out :=
  jumpIndirect ((readRm16 p rm s).map (fun v => v.setWidth 32)) s

/-- `JMP r/m32` (R167). -/
def execJmpRm32 (p : Prefixes) (rm : RegMem) (s : State) : Out :=
  jumpIndirect (readRm32 p rm s) s

end Sys2Proof.Machine
end

