-- ==== Sys2Proof/Machine/Dispatch.lean ====
section
/-! DEFINITION. One arm per constructor of Instr, in the order of `opcode_table.json`. -/

namespace Sys2Proof.Machine

/-- The meaning of an instruction. -/
def exec (i : Instr) (s : State) : Host.Outcome State Fault Refusal :=
  match i with
  | .joRel8 p d8 => Sys2Proof.Machine.execJoRel8 p d8 s
  | .jnoRel8 p d8 => Sys2Proof.Machine.execJnoRel8 p d8 s
  | .jbRel8 p d8 => Sys2Proof.Machine.execJbRel8 p d8 s
  | .jcRel8 p d8 => Sys2Proof.Machine.execJcRel8 p d8 s
  | .jnaeRel8 p d8 => Sys2Proof.Machine.execJnaeRel8 p d8 s
  | .jaeRel8 p d8 => Sys2Proof.Machine.execJaeRel8 p d8 s
  | .jnbRel8 p d8 => Sys2Proof.Machine.execJnbRel8 p d8 s
  | .jncRel8 p d8 => Sys2Proof.Machine.execJncRel8 p d8 s
  | .jeRel8 p d8 => Sys2Proof.Machine.execJeRel8 p d8 s
  | .jzRel8 p d8 => Sys2Proof.Machine.execJzRel8 p d8 s
  | .jneRel8 p d8 => Sys2Proof.Machine.execJneRel8 p d8 s
  | .jnzRel8 p d8 => Sys2Proof.Machine.execJnzRel8 p d8 s
  | .jbeRel8 p d8 => Sys2Proof.Machine.execJbeRel8 p d8 s
  | .jnaRel8 p d8 => Sys2Proof.Machine.execJnaRel8 p d8 s
  | .jaRel8 p d8 => Sys2Proof.Machine.execJaRel8 p d8 s
  | .jnbeRel8 p d8 => Sys2Proof.Machine.execJnbeRel8 p d8 s
  | .jsRel8 p d8 => Sys2Proof.Machine.execJsRel8 p d8 s
  | .jnsRel8 p d8 => Sys2Proof.Machine.execJnsRel8 p d8 s
  | .jpRel8 p d8 => Sys2Proof.Machine.execJpRel8 p d8 s
  | .jpeRel8 p d8 => Sys2Proof.Machine.execJpeRel8 p d8 s
  | .jnpRel8 p d8 => Sys2Proof.Machine.execJnpRel8 p d8 s
  | .jpoRel8 p d8 => Sys2Proof.Machine.execJpoRel8 p d8 s
  | .jlRel8 p d8 => Sys2Proof.Machine.execJlRel8 p d8 s
  | .jngeRel8 p d8 => Sys2Proof.Machine.execJngeRel8 p d8 s
  | .jgeRel8 p d8 => Sys2Proof.Machine.execJgeRel8 p d8 s
  | .jnlRel8 p d8 => Sys2Proof.Machine.execJnlRel8 p d8 s
  | .jleRel8 p d8 => Sys2Proof.Machine.execJleRel8 p d8 s
  | .jngRel8 p d8 => Sys2Proof.Machine.execJngRel8 p d8 s
  | .jgRel8 p d8 => Sys2Proof.Machine.execJgRel8 p d8 s
  | .jnleRel8 p d8 => Sys2Proof.Machine.execJnleRel8 p d8 s
  | .jcxzRel8 p d8 => Sys2Proof.Machine.execJcxzRel8 p d8 s
  | .jecxzRel8 p d8 => Sys2Proof.Machine.execJecxzRel8 p d8 s
  | .joRel16 p rel => Sys2Proof.Machine.execJoRel16 p rel s
  | .joRel32 p rel => Sys2Proof.Machine.execJoRel32 p rel s
  | .jnoRel16 p rel => Sys2Proof.Machine.execJnoRel16 p rel s
  | .jnoRel32 p rel => Sys2Proof.Machine.execJnoRel32 p rel s
  | .jbRel16 p rel => Sys2Proof.Machine.execJbRel16 p rel s
  | .jbRel32 p rel => Sys2Proof.Machine.execJbRel32 p rel s
  | .jcRel16 p rel => Sys2Proof.Machine.execJcRel16 p rel s
  | .jcRel32 p rel => Sys2Proof.Machine.execJcRel32 p rel s
  | .jnaeRel16 p rel => Sys2Proof.Machine.execJnaeRel16 p rel s
  | .jnaeRel32 p rel => Sys2Proof.Machine.execJnaeRel32 p rel s
  | .jaeRel16 p rel => Sys2Proof.Machine.execJaeRel16 p rel s
  | .jaeRel32 p rel => Sys2Proof.Machine.execJaeRel32 p rel s
  | .jnbRel16 p rel => Sys2Proof.Machine.execJnbRel16 p rel s
  | .jnbRel32 p rel => Sys2Proof.Machine.execJnbRel32 p rel s
  | .jncRel16 p rel => Sys2Proof.Machine.execJncRel16 p rel s
  | .jncRel32 p rel => Sys2Proof.Machine.execJncRel32 p rel s
  | .jeRel16 p rel => Sys2Proof.Machine.execJeRel16 p rel s
  | .jeRel32 p rel => Sys2Proof.Machine.execJeRel32 p rel s
  | .jzRel16 p rel => Sys2Proof.Machine.execJzRel16 p rel s
  | .jzRel32 p rel => Sys2Proof.Machine.execJzRel32 p rel s
  | .jneRel16 p rel => Sys2Proof.Machine.execJneRel16 p rel s
  | .jneRel32 p rel => Sys2Proof.Machine.execJneRel32 p rel s
  | .jnzRel16 p rel => Sys2Proof.Machine.execJnzRel16 p rel s
  | .jnzRel32 p rel => Sys2Proof.Machine.execJnzRel32 p rel s
  | .jbeRel16 p rel => Sys2Proof.Machine.execJbeRel16 p rel s
  | .jbeRel32 p rel => Sys2Proof.Machine.execJbeRel32 p rel s
  | .jnaRel16 p rel => Sys2Proof.Machine.execJnaRel16 p rel s
  | .jnaRel32 p rel => Sys2Proof.Machine.execJnaRel32 p rel s
  | .jaRel16 p rel => Sys2Proof.Machine.execJaRel16 p rel s
  | .jaRel32 p rel => Sys2Proof.Machine.execJaRel32 p rel s
  | .jnbeRel16 p rel => Sys2Proof.Machine.execJnbeRel16 p rel s
  | .jnbeRel32 p rel => Sys2Proof.Machine.execJnbeRel32 p rel s
  | .jsRel16 p rel => Sys2Proof.Machine.execJsRel16 p rel s
  | .jsRel32 p rel => Sys2Proof.Machine.execJsRel32 p rel s
  | .jnsRel16 p rel => Sys2Proof.Machine.execJnsRel16 p rel s
  | .jnsRel32 p rel => Sys2Proof.Machine.execJnsRel32 p rel s
  | .jpRel16 p rel => Sys2Proof.Machine.execJpRel16 p rel s
  | .jpRel32 p rel => Sys2Proof.Machine.execJpRel32 p rel s
  | .jpeRel16 p rel => Sys2Proof.Machine.execJpeRel16 p rel s
  | .jpeRel32 p rel => Sys2Proof.Machine.execJpeRel32 p rel s
  | .jnpRel16 p rel => Sys2Proof.Machine.execJnpRel16 p rel s
  | .jnpRel32 p rel => Sys2Proof.Machine.execJnpRel32 p rel s
  | .jpoRel16 p rel => Sys2Proof.Machine.execJpoRel16 p rel s
  | .jpoRel32 p rel => Sys2Proof.Machine.execJpoRel32 p rel s
  | .jlRel16 p rel => Sys2Proof.Machine.execJlRel16 p rel s
  | .jlRel32 p rel => Sys2Proof.Machine.execJlRel32 p rel s
  | .jngeRel16 p rel => Sys2Proof.Machine.execJngeRel16 p rel s
  | .jngeRel32 p rel => Sys2Proof.Machine.execJngeRel32 p rel s
  | .jgeRel16 p rel => Sys2Proof.Machine.execJgeRel16 p rel s
  | .jgeRel32 p rel => Sys2Proof.Machine.execJgeRel32 p rel s
  | .jnlRel16 p rel => Sys2Proof.Machine.execJnlRel16 p rel s
  | .jnlRel32 p rel => Sys2Proof.Machine.execJnlRel32 p rel s
  | .jleRel16 p rel => Sys2Proof.Machine.execJleRel16 p rel s
  | .jleRel32 p rel => Sys2Proof.Machine.execJleRel32 p rel s
  | .jngRel16 p rel => Sys2Proof.Machine.execJngRel16 p rel s
  | .jngRel32 p rel => Sys2Proof.Machine.execJngRel32 p rel s
  | .jgRel16 p rel => Sys2Proof.Machine.execJgRel16 p rel s
  | .jgRel32 p rel => Sys2Proof.Machine.execJgRel32 p rel s
  | .jnleRel16 p rel => Sys2Proof.Machine.execJnleRel16 p rel s
  | .jnleRel32 p rel => Sys2Proof.Machine.execJnleRel32 p rel s
  | .jmpRel8 p d8 => Sys2Proof.Machine.execJmpRel8 p d8 s
  | .jmpRel16 p rel => Sys2Proof.Machine.execJmpRel16 p rel s
  | .jmpRel32 p rel => Sys2Proof.Machine.execJmpRel32 p rel s
  | .jmpRm16 p rm => Sys2Proof.Machine.execJmpRm16 p rm s
  | .jmpRm32 p rm => Sys2Proof.Machine.execJmpRm32 p rm s
  | .jmpPtr16x16 p off sel => Sys2Proof.Machine.execJmpPtr16x16 p off sel s
  | .jmpPtr16x32 p off sel => Sys2Proof.Machine.execJmpPtr16x32 p off sel s
  | .jmpM16x16 p rm => Sys2Proof.Machine.execJmpM16x16 p rm s
  | .jmpM16x32 p rm => Sys2Proof.Machine.execJmpM16x32 p rm s

end Sys2Proof.Machine
end

