-- ==== Sys2Proof/Machine/Fetch.lean ====
section
/-! DEFINITION. Fetching an instruction's bytes and decoding them (`20_memory.md` R56, `60_exceptions.md` R226), and
placing bytes where the next fetch reads them. -/

namespace Sys2Proof.Machine

/-- The offset of instruction byte `k`, modulo `2^32` (R56, R24). -/
def fetchOffset (s : State) (k : Nat) : Word32 := s.eip + BitVec.ofNat 32 k

/-- `Fetch(k)`: the limit check, the translation and the read of one instruction byte (R56, D24; log entry 9). -/
def fetchByte (s : State) (k : Nat) : Res Byte :=
  if s.cs.limit < fetchOffset s k then raiseOffsetGp s
  else
    match translateLinear s (lin s.cs (fetchOffset s k)) with
    | .error e => .error e
    | .ok a => readPhysical s a

/-- Up to `n` instruction bytes from byte `k` on, in stream order, and what stopped the fetch if anything did. A stop
is reported only when the decoder needs the byte (R226; log entry 25). -/
def fetchBytes (s : State) : Nat → Nat → List Byte × Option Stop
  | 0, _ => ([], none)
  | n + 1, k =>
    match fetchByte s k with
    | .error e => ([], some e)
    | .ok b => (b :: (fetchBytes s n (k + 1)).1, (fetchBytes s n (k + 1)).2)

/-- The refusal of the decoder as a refusal of the step (R229). -/
def decodeRefusal (r : DecodeRefusal) (s : State) : Refusal :=
  match r with
  | .opcodeOutOfScope => .opcodeOutOfScope s.eip
  | .prefixNotModelled => .prefixNotModelled s.eip
  | .instructionTooLong => .instructionTooLong s.eip

/-- The instruction at CS:EIP: fetch first, then decode (R12, R226). A stream that ends inside the instruction ends it
with the fetch's own stop, or past `MAX_INSN_LEN` with a refusal (R88). -/
def fetchInstr (s : State) : Res Instr :=
  match decode s.defaultSize (fetchBytes s Config.maxInsnLen 0).1 with
  | .ok i _ => .ok i
  | .refused r => .error (.refused (decodeRefusal r s))
  | .truncated =>
    match (fetchBytes s Config.maxInsnLen 0).2 with
    | some e => .error e
    | none => .error (.refused (.instructionTooLong s.eip))

/-- The length of the longest instruction the prefix policy admits: 10 bytes (D21). -/
def longestInsn : Nat := 10

/-- `s` with bytes stored where instruction byte `k` and the following ones are fetched; a byte whose linear address
does not translate is left out. -/
def placeBytes (s : State) (k : Nat) : List Byte → State
  | [] => s
  | b :: bs =>
    match translateLinear s (lin s.cs (fetchOffset s k)) with
    | .error _ => placeBytes s (k + 1) bs
    | .ok a => placeBytes { s with mem := Memory.write s.mem a.toNat b } (k + 1) bs

end Sys2Proof.Machine
end

