-- ==== Sys2Proof/Machine/Step.lean ====
section
/-! DEFINITION. One step: fetch and decode at CS:EIP, then the instruction's meaning (`00_scope.md` R10 to R12). -/

namespace Sys2Proof.Machine

/-- One instruction is one step (R11, R70). -/
def step (s : State) : Host.Outcome State Fault Refusal :=
  match fetchInstr s with
  | .ok i => exec i s
  | .error e => finish (.error e)

/-- `s` with the instruction whose bits are `w`, zero above bit `nbits`, stored in the bytes that the next step fetches
(log entry 22). -/
def State.withFetchWord (s : State) (nbits w : Nat) : State :=
  placeBytes s 0 (natBytes (w % 2 ^ nbits) longestInsn 0)

end Sys2Proof.Machine
end

