-- ==== Sys2Proof/Machine/Timing.lean ====
section
/-! DEFINITION. The clock counts of `70_reset_and_hazards.md` R260 to R263, as data. No rule of the model depends on
them and no step reads them (log entry 29). -/

namespace Sys2Proof.Machine

/-- A figure of the Clocks column: a count, a count plus `m`, or a count plus `ts` (R260 to R263). -/
inductive Clocks where
  | fixed (n : Nat)
  | plusM (n : Nat)
  | plusTs (n : Nat)
  deriving DecidableEq, Repr

/-- The kinds of destination that the rows of a far JMP list (R261). -/
inductive FarDestination where
  | realOrV86
  | codeSegment
  | callGate
  | taskSwitch
  deriving DecidableEq, Repr

/-- The clocks of a direct far JMP: `12+m,pm=27+m`, `pm=45+m`, `ts` (R261). -/
def farDirectClocks : FarDestination → Clocks
  | .realOrV86 => .plusM 12
  | .codeSegment => .plusM 27
  | .callGate => .plusM 45
  | .taskSwitch => .plusTs 0

/-- The clocks of an indirect far JMP: `43+m,pm=31+m`, `pm=49+m`, `5 + ts` (R261). -/
def farIndirectClocks : FarDestination → Clocks
  | .realOrV86 => .plusM 43
  | .codeSegment => .plusM 31
  | .callGate => .plusM 49
  | .taskSwitch => .plusTs 5

/-- The clocks of an instruction, given whether a conditional jump is taken and where a far jump leads (R260, R261). -/
def clocks (i : Instr) (taken : Bool) (dest : FarDestination) : Clocks :=
  match i.parts.2 with
  | .jcc8 _ _ | .jcc16 _ _ | .jcc32 _ _ => if taken then .plusM 7 else .fixed 3
  | .count _ _ => if taken then .plusM 9 else .fixed 5
  | .jmp8 _ | .jmp16 _ | .jmp32 _ => .plusM 7
  | .nearRm _ rm => if rm.isMem then .plusM 10 else .plusM 7
  | .ptr16 _ _ | .ptr32 _ _ => farDirectClocks dest
  | .farRm _ _ => farIndirectClocks dest

/-- The old task of a task switch, the rows of the `ts` table (R263). -/
inductive OldTask where
  | tss386
  | tss286
  deriving DecidableEq, Repr

/-- The new task of a task switch, the column pairs of the `ts` table (R263). -/
inductive NewTask where
  | tss386
  | task386Vm
  | tss286
  deriving DecidableEq, Repr

/-- The `ts` table (R263). -/
def tsClocks : OldTask → NewTask → Bool → Nat
  | .tss386, .tss386, false => 303
  | .tss386, .tss386, true => 312
  | .tss386, .task386Vm, false => 220
  | .tss386, .task386Vm, true => 229
  | .tss386, .tss286, false => 276
  | .tss386, .tss286, true => 285
  | .tss286, .tss386, false => 301
  | .tss286, .tss386, true => 310
  | .tss286, .task386Vm, false => 218
  | .tss286, .task386Vm, true => 227
  | .tss286, .tss286, false => 274
  | .tss286, .tss286, true => 283

end Sys2Proof.Machine
end

