-- ==== Sys2Proof/Safety.lean ====
section
/-! DEFINITION. The end of a run (`60_exceptions.md` R240) and the invariants that claims about every step use:
`10_state.md` R27, R31, R34 and the launch premises of `70_reset_and_hazards.md` R252. -/

namespace Sys2Proof.Safety

open Sys2Proof.Machine

/-- `EndAddress`, given with the launch (R5, R240, D23; log entry 30). -/
structure EndAddress where
  selector : Word16
  offset : Word32
  deriving DecidableEq, Repr

/-- The state is at the end address: the run is over, and the state is its result (R240). -/
def atEnd (e : EndAddress) (s : State) : Bool :=
  decide (s.cs.selector = e.selector ∧ s.eip = e.offset)

/-- How a run stands after some number of steps. Only `final` is an end that gives a result (R228 to R230, R240). -/
inductive RunEnd where
  | final (s : State)
  | running (s : State)
  | fault (f : Fault)
  | refused (r : Refusal)
  deriving DecidableEq, Repr

/-- A run of at most `n` steps, ended before a step by the end address (R240). -/
def runTo (e : EndAddress) : Nat → State → RunEnd
  | 0, s => if atEnd e s then .final s else .running s
  | n + 1, s =>
    if atEnd e s then .final s
    else
      match step s with
      | .next t => runTo e n t
      | .fault f => .fault f
      | .refused r => .refused r

/-- What holds of every state that the spec describes: memory and `Translate` in canonical form (R50, R58), bit 1 of
EFLAGS reads as 1 (R27), the RPL field of CS equals CPL in Protected mode (R31, R252), and CPL is 3 in V86 mode
(R34). -/
structure StateOk (s : State) : Prop where
  memory : Memory.wf s.mem
  pages : PageMap.wf s.pages
  eflagsBit1 : s.eflags.getLsbD 1 = true
  rplIsCpl : s.mode = .prot → selRpl s.cs.selector = s.cpl
  v86Cpl : s.mode = .v86 → s.cpl = 3

/-- The hidden copy of CS is what `d` gives (R69). R252 item 1 names the base, the limit and D; that a launch state in
Protected mode must hold the AR byte of `d` too is the model's choice: DESIGN CHOICE, log entry 41. -/
def CsHolds (s : State) (d : BitVec 64) : Prop :=
  s.cs.base = descBase d ∧ s.cs.limit = descLimit d ∧ s.cs.ar = descAr d ∧ s.cs.d = descD d

/-- The launch premises on CS and CPL (R252, items 1 and 2): in Real and V86 mode the base is 16 times the selector, the
limit FFFFH and D = 0; in Protected mode the RPL field is CPL and the hidden copy is that of a code segment descriptor
that the selector names in its table. A null CS (0000H to 0003H) over a code segment descriptor in GDT entry 0 is
admitted: the spec leaves open whether a null selector names entry 0 here, and the model's choice is log entry 39. -/
def CsPremises (s : State) : Prop :=
  match s.mode with
  | .real | .v86 => s.cs.base = s.cs.selector.setWidth 32 * 16 ∧ s.cs.limit = 0xFFFF ∧ s.cs.d = false
  | .prot =>
    selRpl s.cs.selector = s.cpl ∧ inTable s s.cs.selector = true ∧
      ∃ d, readDescriptor s s.cs.selector = .ok d ∧
        (descKind d = .conformingCode ∨ descKind d = .nonconformingCode) ∧ CsHolds s d

/-- The bytes of the program and of every operand and descriptor it reads are in the memory map (R252, item 4): no step
of the run that ends at `e` meets an undefined byte. The bytes at the end address are not fetched (R240). -/
def BytesMapped (e : EndAddress) (s : State) : Prop :=
  ∀ n a pc, runTo e n s ≠ .fault (.undefinedRead a pc)

/-- The launch premises of R252 on a state and the end address given with it. Of the rest of R252, every state has the
hidden copies, the tables and `Translate` that items 2, 3 and 6 ask to be given; the interrupts and breakpoints of item
5 have no place in a state (R225, R238; log entry 16). `State.reset` does not meet them (log entry 38). -/
structure LaunchPremises (e : EndAddress) (s : State) : Prop where
  cs : CsPremises s
  noSingleStep : s.tf = false
  bytesMapped : BytesMapped e s

end Sys2Proof.Safety
end

