-- ==== Sys2Proof/Certificates/Slice0/Obligations.lean ====
section
/-! DEFINITION. The statements for the provers. The helpers under `Claims` write the tables of the spec out again, in
the spec's words, so that a statement does not lean on the meaning it is about. -/

namespace Sys2Proof.Claims

open Sys2Proof.Machine

/-- The thirty short flag-testing rows with the condition the opcode table prints beside the mnemonic (R114 to R129; `jle`:
C1). -/
def shortRow : Instr → Option (Prefixes × Byte × (State → Bool))
  | .joRel8 p d8 => some (p, d8, fun s => s.of)
  | .jnoRel8 p d8 => some (p, d8, fun s => !s.of)
  | .jbRel8 p d8 => some (p, d8, fun s => s.cf)
  | .jcRel8 p d8 => some (p, d8, fun s => s.cf)
  | .jnaeRel8 p d8 => some (p, d8, fun s => s.cf)
  | .jaeRel8 p d8 => some (p, d8, fun s => !s.cf)
  | .jnbRel8 p d8 => some (p, d8, fun s => !s.cf)
  | .jncRel8 p d8 => some (p, d8, fun s => !s.cf)
  | .jeRel8 p d8 => some (p, d8, fun s => s.zf)
  | .jzRel8 p d8 => some (p, d8, fun s => s.zf)
  | .jneRel8 p d8 => some (p, d8, fun s => !s.zf)
  | .jnzRel8 p d8 => some (p, d8, fun s => !s.zf)
  | .jbeRel8 p d8 => some (p, d8, fun s => s.cf || s.zf)
  | .jnaRel8 p d8 => some (p, d8, fun s => s.cf || s.zf)
  | .jaRel8 p d8 => some (p, d8, fun s => !s.cf && !s.zf)
  | .jnbeRel8 p d8 => some (p, d8, fun s => !s.cf && !s.zf)
  | .jsRel8 p d8 => some (p, d8, fun s => s.sf)
  | .jnsRel8 p d8 => some (p, d8, fun s => !s.sf)
  | .jpRel8 p d8 => some (p, d8, fun s => s.pf)
  | .jpeRel8 p d8 => some (p, d8, fun s => s.pf)
  | .jnpRel8 p d8 => some (p, d8, fun s => !s.pf)
  | .jpoRel8 p d8 => some (p, d8, fun s => !s.pf)
  | .jlRel8 p d8 => some (p, d8, fun s => s.sf != s.of)
  | .jngeRel8 p d8 => some (p, d8, fun s => s.sf != s.of)
  | .jgeRel8 p d8 => some (p, d8, fun s => s.sf == s.of)
  | .jnlRel8 p d8 => some (p, d8, fun s => s.sf == s.of)
  | .jleRel8 p d8 => some (p, d8, fun s => s.zf || s.sf != s.of)
  | .jngRel8 p d8 => some (p, d8, fun s => s.zf || s.sf != s.of)
  | .jgRel8 p d8 => some (p, d8, fun s => !s.zf && s.sf == s.of)
  | .jnleRel8 p d8 => some (p, d8, fun s => !s.zf && s.sf == s.of)
  | _ => none

/-- The thirty near rows with rel16 and their conditions (R132 to R147; `jle`: C1). -/
def nearRow16 : Instr → Option (Prefixes × Word16 × (State → Bool))
  | .joRel16 p rel => some (p, rel, fun s => s.of)
  | .jnoRel16 p rel => some (p, rel, fun s => !s.of)
  | .jbRel16 p rel => some (p, rel, fun s => s.cf)
  | .jcRel16 p rel => some (p, rel, fun s => s.cf)
  | .jnaeRel16 p rel => some (p, rel, fun s => s.cf)
  | .jaeRel16 p rel => some (p, rel, fun s => !s.cf)
  | .jnbRel16 p rel => some (p, rel, fun s => !s.cf)
  | .jncRel16 p rel => some (p, rel, fun s => !s.cf)
  | .jeRel16 p rel => some (p, rel, fun s => s.zf)
  | .jzRel16 p rel => some (p, rel, fun s => s.zf)
  | .jneRel16 p rel => some (p, rel, fun s => !s.zf)
  | .jnzRel16 p rel => some (p, rel, fun s => !s.zf)
  | .jbeRel16 p rel => some (p, rel, fun s => s.cf || s.zf)
  | .jnaRel16 p rel => some (p, rel, fun s => s.cf || s.zf)
  | .jaRel16 p rel => some (p, rel, fun s => !s.cf && !s.zf)
  | .jnbeRel16 p rel => some (p, rel, fun s => !s.cf && !s.zf)
  | .jsRel16 p rel => some (p, rel, fun s => s.sf)
  | .jnsRel16 p rel => some (p, rel, fun s => !s.sf)
  | .jpRel16 p rel => some (p, rel, fun s => s.pf)
  | .jpeRel16 p rel => some (p, rel, fun s => s.pf)
  | .jnpRel16 p rel => some (p, rel, fun s => !s.pf)
  | .jpoRel16 p rel => some (p, rel, fun s => !s.pf)
  | .jlRel16 p rel => some (p, rel, fun s => s.sf != s.of)
  | .jngeRel16 p rel => some (p, rel, fun s => s.sf != s.of)
  | .jgeRel16 p rel => some (p, rel, fun s => s.sf == s.of)
  | .jnlRel16 p rel => some (p, rel, fun s => s.sf == s.of)
  | .jleRel16 p rel => some (p, rel, fun s => s.zf || s.sf != s.of)
  | .jngRel16 p rel => some (p, rel, fun s => s.zf || s.sf != s.of)
  | .jgRel16 p rel => some (p, rel, fun s => !s.zf && s.sf == s.of)
  | .jnleRel16 p rel => some (p, rel, fun s => !s.zf && s.sf == s.of)
  | _ => none

/-- The thirty near rows with rel32 and their conditions (R132 to R147; `jle`: C1). -/
def nearRow32 : Instr → Option (Prefixes × Word32 × (State → Bool))
  | .joRel32 p rel => some (p, rel, fun s => s.of)
  | .jnoRel32 p rel => some (p, rel, fun s => !s.of)
  | .jbRel32 p rel => some (p, rel, fun s => s.cf)
  | .jcRel32 p rel => some (p, rel, fun s => s.cf)
  | .jnaeRel32 p rel => some (p, rel, fun s => s.cf)
  | .jaeRel32 p rel => some (p, rel, fun s => !s.cf)
  | .jnbRel32 p rel => some (p, rel, fun s => !s.cf)
  | .jncRel32 p rel => some (p, rel, fun s => !s.cf)
  | .jeRel32 p rel => some (p, rel, fun s => s.zf)
  | .jzRel32 p rel => some (p, rel, fun s => s.zf)
  | .jneRel32 p rel => some (p, rel, fun s => !s.zf)
  | .jnzRel32 p rel => some (p, rel, fun s => !s.zf)
  | .jbeRel32 p rel => some (p, rel, fun s => s.cf || s.zf)
  | .jnaRel32 p rel => some (p, rel, fun s => s.cf || s.zf)
  | .jaRel32 p rel => some (p, rel, fun s => !s.cf && !s.zf)
  | .jnbeRel32 p rel => some (p, rel, fun s => !s.cf && !s.zf)
  | .jsRel32 p rel => some (p, rel, fun s => s.sf)
  | .jnsRel32 p rel => some (p, rel, fun s => !s.sf)
  | .jpRel32 p rel => some (p, rel, fun s => s.pf)
  | .jpeRel32 p rel => some (p, rel, fun s => s.pf)
  | .jnpRel32 p rel => some (p, rel, fun s => !s.pf)
  | .jpoRel32 p rel => some (p, rel, fun s => !s.pf)
  | .jlRel32 p rel => some (p, rel, fun s => s.sf != s.of)
  | .jngeRel32 p rel => some (p, rel, fun s => s.sf != s.of)
  | .jgeRel32 p rel => some (p, rel, fun s => s.sf == s.of)
  | .jnlRel32 p rel => some (p, rel, fun s => s.sf == s.of)
  | .jleRel32 p rel => some (p, rel, fun s => s.zf || s.sf != s.of)
  | .jngRel32 p rel => some (p, rel, fun s => s.zf || s.sf != s.of)
  | .jgRel32 p rel => some (p, rel, fun s => !s.zf && s.sf == s.of)
  | .jnleRel32 p rel => some (p, rel, fun s => !s.zf && s.sf == s.of)
  | _ => none

/-- The displacement, extended to 32 bits, the length, the operand size and the truth value of the condition of a
conditional jump in a state; `none` for JMP (R111, R114 to R147). -/
def conditional (i : Instr) (s : State) : Option (Word32 × Nat × Size × Bool) :=
  match i with
  | .jcxzRel8 p d8 => some (d8.signExtend 32, p.count + 2, s.operandSize p, s.regs.ecx.setWidth 16 == (0 : Word16))
  | .jecxzRel8 p d8 => some (d8.signExtend 32, p.count + 2, s.operandSize p, s.regs.ecx == 0)
  | _ =>
    match shortRow i, nearRow16 i, nearRow32 i with
    | some (p, d8, c), _, _ => some (d8.signExtend 32, p.count + 2, s.operandSize p, c s)
    | _, some (p, rel, c), _ => some (rel.signExtend 32, p.count + 4, .w16, c s)
    | _, _, some (p, rel, c) => some (rel, p.count + 6, .w32, c s)
    | _, _, _ => none

/-- The five near forms of JMP (R163 to R167). -/
def isNearJmp : Instr → Bool
  | .jmpRel8 _ _ | .jmpRel16 _ _ | .jmpRel32 _ _ | .jmpRm16 _ _ | .jmpRm32 _ _ => true
  | _ => false

/-- The four far forms of JMP (R180 to R183). -/
def isFarJmp : Instr → Bool
  | .jmpPtr16x16 _ _ _ | .jmpPtr16x32 _ _ _ | .jmpM16x16 _ _ | .jmpM16x32 _ _ => true
  | _ => false

/-- Segment and offset of a ModRM operand in memory; `none` for a register (R92 to R94). -/
def memoryOperand (p : Prefixes) (rm : RegMem) (s : State) : Option (SReg × Word32) :=
  match rm with
  | .reg _ => none
  | .mem16 m => some (p.seg.getD (mem16Segment m), mem16Offset s m)
  | .mem32 m => some (p.seg.getD (mem32Segment m), mem32Offset s m)

/-- Segment, offset and size in bytes of the memory operand of FF /4 and FF /5 (R166, R167, R182, R183). -/
def operandBytes (i : Instr) (s : State) : Option (SReg × Word32 × Nat) :=
  match i with
  | .jmpRm16 p rm => (memoryOperand p rm s).map fun a => (a.1, a.2, 2)
  | .jmpRm32 p rm => (memoryOperand p rm s).map fun a => (a.1, a.2, 4)
  | .jmpM16x16 p rm => (memoryOperand p rm s).map fun a => (a.1, a.2, 4)
  | .jmpM16x32 p rm => (memoryOperand p rm s).map fun a => (a.1, a.2, 6)
  | _ => none

/-- Whether an instruction has a memory operand: FF /4 and FF /5 with `mod` other than 3 (R90, R96). -/
def hasMemoryOperand : Instr → Bool
  | .jmpRm16 _ (.reg _) | .jmpRm32 _ (.reg _) | .jmpM16x16 _ (.reg _) | .jmpM16x32 _ (.reg _) => false
  | .jmpRm16 _ _ | .jmpRm32 _ _ | .jmpM16x16 _ _ | .jmpM16x32 _ _ => true
  | _ => false

/-- "Not usable for a read" (R55, D14): the flag of the hidden copy, or an AR byte that says execute-only code (S = 1,
code, not readable) or expand-down data (S = 1, data, type bit 2). The model's choice of the parameter: log entries 10
and 11. -/
abbrev Unusable (g : Segment) : Prop :=
  g.unusable = true ∨
  g.ar.toNat / 16 % 2 = 1 ∧ g.ar.toNat / 8 % 2 = 1 ∧ g.ar.toNat / 2 % 2 = 0 ∨
  g.ar.toNat / 16 % 2 = 1 ∧ g.ar.toNat / 8 % 2 = 0 ∧ g.ar.toNat / 4 % 2 = 1

/-- An operand of `n` bytes at offset `off` of segment `r` passes the checks that come before its translation (R55). -/
abbrev OperandInBounds (s : State) (r : SReg) (off : Word32) (n : Nat) : Prop :=
  s.mode = .prot ∧ ¬ Unusable (s.seg r) ∧ off.toNat + n - 1 ≤ (s.seg r).limit.toNat ∨
  s.mode ≠ .prot ∧ off.toNat + n - 1 ≤ 0xFFFF

/-- `Translate` answers `a` for the linear address `lin`: itself in Real mode and with PG = 0 (R58; log entry 5). -/
abbrev TranslatesTo (s : State) (lin a : Word32) : Prop :=
  if s.mode = .real ∨ s.pg = false then a = lin else PageMap.find s.pages lin = .physical a

/-- `Translate` faults on the linear address `lin` with `code` (R58; log entry 5). -/
abbrev TranslateFaults (s : State) (lin code : Word32) : Prop :=
  s.mode ≠ .real ∧ s.pg = true ∧ PageMap.find s.pages lin = .pageFault code

/-- What a read of `n` bytes at linear address `addr` raises: the page fault of the first byte that `Translate` faults
on, or, where all translate, the undefined read of the first byte that memory does not hold (R45, R55, R230). -/
def ReadStops (s : State) (addr : Word32) (n : Nat) (f : Fault) : Prop :=
  ∃ k < n,
    (∃ code, TranslateFaults s (addr + BitVec.ofNat 32 k) code ∧ f = .exception .pf (some code) s.eip ∧
      ∀ j < k, ∃ a, TranslatesTo s (addr + BitVec.ofNat 32 j) a) ∨
    (∃ a, TranslatesTo s (addr + BitVec.ofNat 32 k) a ∧ Memory.read s.mem a.toNat = none ∧
      f = .undefinedRead a s.eip ∧ (∀ j < n, ∃ x, TranslatesTo s (addr + BitVec.ofNat 32 j) x) ∧
      ∀ j < k, ∃ x b, TranslatesTo s (addr + BitVec.ofNat 32 j) x ∧ Memory.read s.mem x.toNat = some b)

/-- The linear address of the descriptor that a selector names (R64). -/
def descriptorAddress (s : State) (sel : Word16) : Word32 :=
  (if sel.toNat / 4 % 2 = 1 then s.ldtr.base else s.gdtr.base) + BitVec.ofNat 32 (sel.toNat / 8 * 8)

/-- `Kind(d)` by the S bit and the type of the AR byte (R66). -/
def kindRow (sBit type : Nat) : Kind :=
  if sBit = 1 then
    if 12 ≤ type then .conformingCode else if 8 ≤ type then .nonconformingCode else .data
  else if type = 4 then .callGate16
  else if type = 12 then .callGate32
  else if type = 5 then .taskGate
  else if type = 1 then .availTss16
  else if type = 9 then .availTss32
  else if type = 3 then .busyTss16
  else if type = 11 then .busyTss32
  else .other

/-- Instruction byte `k` is within the code-segment limit, its linear address translates, and memory holds `b` there
(R56). -/
def Fetches (s : State) (k : Nat) (b : Byte) : Prop :=
  s.eip + BitVec.ofNat 32 k ≤ s.cs.limit ∧
  ∃ a, TranslatesTo s (s.cs.base + (s.eip + BitVec.ofNat 32 k)) a ∧ Memory.read s.mem a.toNat = some b

/-- The instruction at CS:EIP needs its byte `k`: the `k` bytes before it can be fetched and end inside an instruction.
Byte 0 is always needed (R56, R226; R88 for the bound). -/
def NeedsByte (s : State) (k : Nat) : Prop :=
  k < 15 ∧ ∃ bs : List Byte, bs.length = k ∧ (∀ j b, bs[j]? = some b → Fetches s j b) ∧
    decode s.defaultSize bs = .truncated

/-- The opcode digit `cc` with the rows without `alias_of` of R85: short, rel16, rel32. -/
def conditionRow : List (Byte × (Byte → Instr) × (Word16 → Instr) × (Word32 → Instr)) :=
  let p := Prefixes.empty
  [(0x0, .joRel8 p, .joRel16 p, .joRel32 p), (0x1, .jnoRel8 p, .jnoRel16 p, .jnoRel32 p),
   (0x2, .jbRel8 p, .jbRel16 p, .jbRel32 p), (0x3, .jaeRel8 p, .jaeRel16 p, .jaeRel32 p),
   (0x4, .jeRel8 p, .jeRel16 p, .jeRel32 p), (0x5, .jneRel8 p, .jneRel16 p, .jneRel32 p),
   (0x6, .jbeRel8 p, .jbeRel16 p, .jbeRel32 p), (0x7, .jaRel8 p, .jaRel16 p, .jaRel32 p),
   (0x8, .jsRel8 p, .jsRel16 p, .jsRel32 p), (0x9, .jnsRel8 p, .jnsRel16 p, .jnsRel32 p),
   (0xA, .jpRel8 p, .jpRel16 p, .jpRel32 p), (0xB, .jnpRel8 p, .jnpRel16 p, .jnpRel32 p),
   (0xC, .jlRel8 p, .jlRel16 p, .jlRel32 p), (0xD, .jgeRel8 p, .jgeRel16 p, .jgeRel32 p),
   (0xE, .jleRel8 p, .jleRel16 p, .jleRel32 p), (0xF, .jgRel8 p, .jgRel16 p, .jgRel32 p)]

/-- The numbers of the general registers (R20, R91). -/
def registerNumbers : List (Byte × GReg) :=
  [(0, .eax), (1, .ecx), (2, .edx), (3, .ebx), (4, .esp), (5, .ebp), (6, .esi), (7, .edi)]

/-- The segment override bytes (R95). -/
def overrideBytes : List (Byte × SReg) :=
  [(0x2E, .cs), (0x36, .ss), (0x3E, .ds), (0x26, .es), (0x64, .fs), (0x65, .gs)]

/-- A far jump has the long pointer `sel`, `off` in hand: from its own bytes, or from its memory operand, read with the
checks of `SegRead` (R75, R180 to R183). `w` is its operand size. -/
def HasPointer (i : Instr) (s : State) (w : Size) (sel : Word16) (off : Word32) : Prop :=
  match i with
  | .jmpPtr16x16 _ o x => w = .w16 ∧ sel = x ∧ off = o.setWidth 32
  | .jmpPtr16x32 _ o x => w = .w32 ∧ sel = x ∧ off = o
  | .jmpM16x16 p rm =>
    w = .w16 ∧ ∃ r o, ∃ v : BitVec 32, memoryOperand p rm s = some (r, o) ∧ segRead s 32 r o 4 = .ok v ∧
      off = (v.extractLsb' 0 16).setWidth 32 ∧ sel = v.extractLsb' 16 16
  | .jmpM16x32 p rm =>
    w = .w32 ∧ ∃ r o, ∃ v : BitVec 48, memoryOperand p rm s = some (r, o) ∧ segRead s 48 r o 6 = .ok v ∧
      off = v.extractLsb' 0 32 ∧ sel = v.extractLsb' 32 16
  | _ => False

/-- The outcome of an exception in a state: kind, error code, the EIP of the instruction (R228). -/
def raises (k : ExceptionKind) (code : Option Word32) (s : State) : Host.Outcome State Fault Refusal :=
  .fault (.exception k code s.eip)

/-- The outcome of an exception whose error code is a selector with its RPL field cleared (R223). -/
def raisesSel (k : ExceptionKind) (sel : Word16) (s : State) : Host.Outcome State Fault Refusal :=
  .fault (.exception k (some ((sel &&& 0xFFFC).setWidth 32)) s.eip)

/-- The state after a far jump entered the code segment of `d` through `sel` at `off` (R31, R69, R198). -/
def entered (s : State) (sel : Word16) (d : BitVec 64) (off : Word32) : State :=
  { s with
    eip := off
    cs := { selector := (sel &&& 0xFFFC) ||| s.cpl.setWidth 16, base := descBase d, limit := descLimit d,
            ar := descAr d, d := descD d, unusable := false } }

/-- A far jump in Protected mode whose selector passed the checks of R186 and names `d`. -/
def AtDescriptor (i : Instr) (s : State) (w : Size) (sel : Word16) (off : Word32) (d : BitVec 64) : Prop :=
  HasPointer i s w sel off ∧ s.mode = .prot ∧ isNull sel = false ∧ inTable s sel = true ∧
    readDescriptor s sel = .ok d

end Sys2Proof.Claims

open Sys2Proof Sys2Proof.Machine Sys2Proof.Claims Sys2Proof.Safety

/-! ### Encoding -/

/-- The bytes of a well-formed instruction decode to it again, synonyms to the row without `alias_of`, whatever bytes
follow and whatever the operands (R80 to R96, R104). Model conventions it rests on: log entries 18, 20, 23, 35, 40. -/
def Obligations.DecodeEncodeAgree : Prop :=
  ∀ (dflt : Size) (i : Instr) (rest : List Byte), wellFormed dflt i = true →
    decode dflt (encode i ++ rest) = .ok i.core rest

/-- Whatever the decoder answers has an encoding and is a row without `alias_of` (R85 to R96). Model conventions it
rests on: log entries 18, 20, 23, 40. -/
def Obligations.DecodedInstructionIsWellFormed : Prop :=
  ∀ (dflt : Size) (bs rest : List Byte) (i : Instr), decode dflt bs = .ok i rest →
    wellFormed dflt i = true ∧ i.core = i

/-- A decoded instruction takes exactly its length of bytes, at most 10 of them (R88, D21). Model conventions it rests
on: log entries 18, 23, 25, 40. -/
def Obligations.DecodedLength : Prop :=
  ∀ (dflt : Size) (bs rest : List Byte) (i : Instr), decode dflt bs = .ok i rest →
    i.length ≤ bs.length ∧ rest = bs.drop i.length ∧ 2 ≤ i.length ∧ i.length ≤ 10

/-- Bytes after an instruction have no part in its decoding, refusals included (R80, R88). Model conventions it rests
on: log entries 18, 25. -/
def Obligations.DecodingIgnoresLaterBytes : Prop :=
  ∀ (dflt : Size) (bs rest more : List Byte) (i : Instr),
    (decode dflt bs = .ok i rest → decode dflt (bs ++ more) = .ok i (rest ++ more)) ∧
      ∀ r, decode dflt bs = .refused r → decode dflt (bs ++ more) = .refused r

/-- A synonym does what the row without `alias_of` does (R104). Model conventions it rests on: log entry 20. -/
def Obligations.SynonymsRunTheSame : Prop :=
  ∀ (i : Instr) (s : State), exec i s = exec i.core s ∧ encode i = encode i.core ∧ i.core.core = i.core

/-- Words written out from the encoding tables: JLE short, JNO rel16 and (66) rel32, JECXZ (67), JMP short, near, far
direct, `JMP [EAX*4 + 2000H]`, and `JMP FAR CS:[BX]` (R81 to R95). Model conventions it rests on: log entries 7, 35. -/
def Obligations.WrittenWordsDecode : Prop :=
  decode .w16 [0x7E, 0x80] = .ok (.jleRel8 Prefixes.empty 0x80) [] ∧
  decode .w16 [0x0F, 0x81, 0x34, 0x12] = .ok (.jnoRel16 Prefixes.empty 0x1234) [] ∧
  decode .w16 [0x66, 0x0F, 0x81, 0x78, 0x56, 0x34, 0x12] = .ok (.jnoRel32 ⟨true, false, none⟩ 0x12345678) [] ∧
  decode .w16 [0x67, 0xE3, 0x10] = .ok (.jecxzRel8 ⟨false, true, none⟩ 0x10) [] ∧
  decode .w16 [0x66, 0xE3, 0x10] = .ok (.jcxzRel8 ⟨true, false, none⟩ 0x10) [] ∧
  decode .w32 [0x66, 0xE3, 0x10] = .ok (.jecxzRel8 ⟨true, false, none⟩ 0x10) [] ∧
  decode .w32 [0xEB, 0xFE] = .ok (.jmpRel8 Prefixes.empty 0xFE) [] ∧
  decode .w32 [0xE9, 0xFB, 0xFF, 0xFF, 0xFF] = .ok (.jmpRel32 Prefixes.empty 0xFFFFFFFB) [] ∧
  decode .w16 [0xEA, 0x00, 0x01, 0x00, 0x20] = .ok (.jmpPtr16x16 Prefixes.empty 0x0100 0x2000) [] ∧
  decode .w32 [0xFF, 0x24, 0x85, 0x00, 0x20, 0x00, 0x00] =
    .ok (.jmpRm32 Prefixes.empty (.mem32 (.sibNoBase .x4 (some .eax) 0x2000))) [] ∧
  decode .w16 [0x2E, 0xFF, 0x2F] =
    .ok (.jmpM16x16 ⟨false, false, some .cs⟩ (.mem16 (.based .bx .none))) [] ∧
  (∀ q ∈ conditionRow, decode .w16 [0x70 + q.1, 0x12] = .ok (q.2.1 0x12) [] ∧
    decode .w16 [0x0F, 0x80 + q.1, 0x34, 0x12] = .ok (q.2.2.1 0x1234) [] ∧
    decode .w32 [0x0F, 0x80 + q.1, 0x78, 0x56, 0x34, 0x12] = .ok (q.2.2.2 0x12345678) []) ∧
  (∀ q ∈ registerNumbers, decode .w16 [0xFF, 0xE0 + q.1] = .ok (.jmpRm16 Prefixes.empty (.reg q.2)) [] ∧
    decode .w32 [0xFF, 0xE0 + q.1] = .ok (.jmpRm32 Prefixes.empty (.reg q.2)) [] ∧
    decode .w32 [0xFF, 0x64, 0xD0 + q.1, 0x05] =
      .ok (.jmpRm32 Prefixes.empty (.mem32 (.sib .x8 (some .edx) q.2 (.d8 0x05)))) [] ∧
    (q.2 ≠ .esp → decode .w32 [0xFF, 0x60 + q.1, 0x05] =
        .ok (.jmpRm32 Prefixes.empty (.mem32 (.based q.2 (.d8 0x05)))) [] ∧
      decode .w32 [0xFF, 0x64, 0x40 + 8 * q.1, 0x05] =
        .ok (.jmpRm32 Prefixes.empty (.mem32 (.sib .x2 (some q.2) .eax (.d8 0x05)))) [])) ∧
  ∀ q ∈ overrideBytes, decode .w16 [q.1, 0xFF, 0x27] =
    .ok (.jmpRm16 ⟨false, false, some q.2⟩ (.mem16 (.based .bx .none))) []

/-- LOCK, REPNE and REP, a second 66 or 67 and a second segment override are refused after any prefix bytes that the
decoder has taken; so is a segment override, at any place among the prefix bytes, of an instruction without a memory
operand (R96, R97). Model conventions it rests on: log entry 18. -/
def Obligations.PrefixPolicy : Prop :=
  ∀ (dflt : Size) (p : Prefixes) (r : List Byte) (x : SReg),
    (∀ b ∈ [0xF0#8, 0xF2#8, 0xF3#8], decodeFrom dflt p (b :: r) = .refused .prefixNotModelled) ∧
    (p.opSize = true → decodeFrom dflt p (0x66 :: r) = .refused .prefixNotModelled) ∧
    (p.addrSize = true → decodeFrom dflt p (0x67 :: r) = .refused .prefixNotModelled) ∧
    (p.seg ≠ none → decodeFrom dflt p (x.overrideByte :: r) = .refused .prefixNotModelled) ∧
    ∀ (i : Instr) (before after : List Byte), wellFormed dflt i = true → hasMemoryOperand i = false →
      i.parts.1.bytes = before ++ after →
      decode dflt (before ++ x.overrideByte :: after ++ i.parts.2.bytes ++ r) = .refused .prefixNotModelled

/-- A first byte that is no prefix byte and no opcode of the table, a second byte of `0F` outside 80 to 8F, and an FF
digit other than 4 and 5 are refused as out of scope (R99, R100). Model conventions it rests on: log entries 17, 18. -/
def Obligations.OutOfScopeOpcodesRefused : Prop :=
  ∀ (dflt : Size) (b : Byte) (r : List Byte),
    (b.extractLsb' 4 4 ≠ 7 → b ∉ [0xE3#8, 0xE9#8, 0xEA#8, 0xEB#8, 0xFF#8, 0x0F#8] →
      b ∉ [0x66#8, 0x67#8, 0x2E#8, 0x36#8, 0x3E#8, 0x26#8, 0x64#8, 0x65#8, 0xF0#8, 0xF2#8, 0xF3#8] →
      decode dflt (b :: r) = .refused .opcodeOutOfScope) ∧
    (b.extractLsb' 4 4 ≠ 8 → decode dflt (0x0F :: b :: r) = .refused .opcodeOutOfScope) ∧
    (b.extractLsb' 3 3 ≠ 4 → b.extractLsb' 3 3 ≠ 5 → decode dflt (0xFF :: b :: r) = .refused .opcodeOutOfScope)

/-! ### Flags -/

/-- The conditions of R110, by `cc`, and that the odd one of each pair is the negation of the even one; the bits of
EFLAGS and CR0 that the flags, TF and PG are (R27, R33); and the mode by PE and VM, Real with PE = 0 whatever VM is
(R34, R38). The "or" of LE is the spec's resolution C1 of two readings of the source, the bit places are its general
knowledge, and PE = 0 with VM = 1 is its decision D30. Model conventions it rests on: log entries 32, 35, 36. -/
def Obligations.ConditionTable : Prop :=
  (∀ f : StatusFlags,
    condHolds (Cond.ofCode 0x0) f = f.of ∧ condHolds (Cond.ofCode 0x2) f = f.cf ∧
    condHolds (Cond.ofCode 0x4) f = f.zf ∧ condHolds (Cond.ofCode 0x6) f = (f.cf || f.zf) ∧
    condHolds (Cond.ofCode 0x8) f = f.sf ∧ condHolds (Cond.ofCode 0xA) f = f.pf ∧
    condHolds (Cond.ofCode 0xC) f = (f.sf != f.of) ∧ condHolds (Cond.ofCode 0xE) f = (f.zf || f.sf != f.of)) ∧
  (∀ (f : StatusFlags) (n : BitVec 4), condHolds (Cond.ofCode (n ^^^ 1)) f = !condHolds (Cond.ofCode n) f) ∧
  ∀ s : State,
    let flag : Nat → Bool := fun k => decide (s.eflags.toNat / 2 ^ k % 2 = 1)
    let control : Nat → Bool := fun k => decide (s.cr0.toNat / 2 ^ k % 2 = 1)
    s.cf = flag 0 ∧ s.pf = flag 2 ∧ s.zf = flag 6 ∧ s.sf = flag 7 ∧ s.tf = flag 8 ∧ s.of = flag 11 ∧
    s.flags = { cf := flag 0, pf := flag 2, zf := flag 6, sf := flag 7, of := flag 11 } ∧ s.pg = control 31 ∧
    s.mode = if control 0 = false then .real else if flag 17 = true then .v86 else .prot

/-- After a compare of `a` with `b` at any width, SF, OF and PF are what R150 says of the difference, and the
conditions below, below or equal, equal, less, less or equal say what it says of the numbers. Model conventions it
rests on: log entry 36. -/
def Obligations.ComparisonConditions : Prop :=
  ∀ (n : Nat) (a b : BitVec n),
    (compareFlags a b).sf = (a - b).getLsbD (n - 1) ∧
    (compareFlags a b).of = decide ((a - b).toInt ≠ a.toInt - b.toInt) ∧
    (compareFlags a b).pf = decide ((List.range 8).countP (fun k => (a - b).getLsbD k) % 2 = 0) ∧
    condHolds .b (compareFlags a b) = decide (a.toNat < b.toNat) ∧
    condHolds .be (compareFlags a b) = decide (a.toNat ≤ b.toNat) ∧
    condHolds .e (compareFlags a b) = decide (a = b) ∧
    condHolds .l (compareFlags a b) = decide (a.toInt < b.toInt) ∧
    condHolds .le (compareFlags a b) = decide (a.toInt ≤ b.toInt)

/-! ### Conditional jumps -/

/-- The thirty short flag-testing jumps: not taken, EIP becomes the next instruction's offset; taken, the target,
masked to 16 bits with `OperandSize = 16`; `#GP(0)` only when taken, in Protected mode, beyond the limit. Nothing else
changes (R111 to R129). Model conventions it rests on: log entries 9, 17, 36, 37. -/
def Obligations.ShortConditionalJumps : Prop :=
  ∀ (i : Instr) (p : Prefixes) (d8 : Byte) (c : State → Bool) (s : State), shortRow i = some (p, d8, c) →
    let next := s.eip + BitVec.ofNat 32 (p.count + 2)
    let sum := next + d8.signExtend 32
    let t := if s.operandSize p = .w16 then sum &&& 0x0000FFFF else sum
    (c s = false → exec i s = .next { s with eip := next }) ∧
    (c s = true → ¬(s.mode = .prot ∧ s.cs.limit < t) → exec i s = .next { s with eip := t }) ∧
    (c s = true → s.mode = .prot → s.cs.limit < t → exec i s = raises .gp (some 0) s)

/-- The thirty near conditional jumps with rel16, whose taken target is always masked (R111, R132 to R147). Model
conventions it rests on: log entries 9, 17, 23, 36, 37. -/
def Obligations.NearConditionalJumps16 : Prop :=
  ∀ (i : Instr) (p : Prefixes) (rel : Word16) (c : State → Bool) (s : State), nearRow16 i = some (p, rel, c) →
    let next := s.eip + BitVec.ofNat 32 (p.count + 4)
    let t := (next + rel.signExtend 32) &&& 0x0000FFFF
    (c s = false → exec i s = .next { s with eip := next }) ∧
    (c s = true → ¬(s.mode = .prot ∧ s.cs.limit < t) → exec i s = .next { s with eip := t }) ∧
    (c s = true → s.mode = .prot → s.cs.limit < t → exec i s = raises .gp (some 0) s)

/-- The thirty near conditional jumps with rel32, whose target is never masked (R111, R132 to R147). Model conventions
it rests on: log entries 9, 17, 23, 36, 37. -/
def Obligations.NearConditionalJumps32 : Prop :=
  ∀ (i : Instr) (p : Prefixes) (rel : Word32) (c : State → Bool) (s : State), nearRow32 i = some (p, rel, c) →
    let next := s.eip + BitVec.ofNat 32 (p.count + 6)
    let t := next + rel
    (c s = false → exec i s = .next { s with eip := next }) ∧
    (c s = true → ¬(s.mode = .prot ∧ s.cs.limit < t) → exec i s = .next { s with eip := t }) ∧
    (c s = true → s.mode = .prot → s.cs.limit < t → exec i s = raises .gp (some 0) s)

/-- JCXZ tests the low 16 bits of ECX and no flag, JECXZ all 32; both then jump as the other short forms do, and the
count register is not written (R130, R131). Model conventions it rests on: log entries 7, 9, 17, 37. -/
def Obligations.CountRegisterJumps : Prop :=
  ∀ (p : Prefixes) (d8 : Byte) (s : State),
    let next := s.eip + BitVec.ofNat 32 (p.count + 2)
    let sum := next + d8.signExtend 32
    let t := if s.operandSize p = .w16 then sum &&& 0x0000FFFF else sum
    (s.regs.ecx.toNat % 2 ^ 16 ≠ 0 → exec (.jcxzRel8 p d8) s = .next { s with eip := next }) ∧
    (s.regs.ecx.toNat % 2 ^ 16 = 0 → ¬(s.mode = .prot ∧ s.cs.limit < t) →
      exec (.jcxzRel8 p d8) s = .next { s with eip := t }) ∧
    (s.regs.ecx.toNat % 2 ^ 16 = 0 → s.mode = .prot → s.cs.limit < t →
      exec (.jcxzRel8 p d8) s = raises .gp (some 0) s) ∧
    (s.regs.ecx ≠ 0 → exec (.jecxzRel8 p d8) s = .next { s with eip := next }) ∧
    (s.regs.ecx = 0 → ¬(s.mode = .prot ∧ s.cs.limit < t) →
      exec (.jecxzRel8 p d8) s = .next { s with eip := t }) ∧
    (s.regs.ecx = 0 → s.mode = .prot → s.cs.limit < t →
      exec (.jecxzRel8 p d8) s = raises .gp (some 0) s)

/-- A conditional jump that completes changes EIP and nothing else: no register, flag, segment register, control
register or byte of memory, taken or not (R148). -/
def Obligations.ConditionalJumpsWriteOnlyEip : Prop :=
  ∀ (i : Instr) (s t : State), conditional i s ≠ none → exec i s = .next t → t = { s with eip := t.eip }

/-- With `OperandSize = 16` a taken conditional jump of either form loads the sum modulo `2^16`; a jump not taken, and
one with `OperandSize = 32`, is not masked (R112). Model conventions it rests on: log entries 9, 23. -/
def Obligations.TakenJumpMask : Prop :=
  ∀ (i : Instr) (s t : State) (disp : Word32) (len : Nat) (w : Size) (taken : Bool),
    conditional i s = some (disp, len, w, taken) → exec i s = .next t →
    (taken = true → w = .w16 → t.eip.toNat = (s.eip + BitVec.ofNat 32 len + disp).toNat % 2 ^ 16) ∧
    (taken = true → w = .w32 → t.eip = s.eip + BitVec.ofNat 32 len + disp) ∧
    (taken = false → t.eip = s.eip + BitVec.ofNat 32 len)

/-- A conditional jump raises `#GP(0)`, with EIP still at the jump, exactly when it is taken in Protected mode to a
target beyond the code-segment limit; not taken, and in Real and V86 mode, it raises nothing and completes (R110,
R112, R113, R57). That it stops at the exception is the spec's decision D8. Model conventions it rests on: log entries
7, 9, 17, 23, 36, 37. -/
def Obligations.ConditionalJumpExceptions : Prop :=
  ∀ (i : Instr) (s : State) (disp : Word32) (len : Nat) (w : Size) (taken : Bool),
    conditional i s = some (disp, len, w, taken) →
    let sum := s.eip + BitVec.ofNat 32 len + disp
    let t := if w = .w16 then sum &&& 0x0000FFFF else sum
    (taken = true ∧ s.mode = .prot ∧ s.cs.limit < t → exec i s = raises .gp (some 0) s) ∧
    (¬(taken = true ∧ s.mode = .prot ∧ s.cs.limit < t) → ∃ u, exec i s = .next u)

/-! ### JMP, near forms -/

/-- JMP rel8, rel16 and rel32: the target is the next instruction's offset plus the sign-extended displacement, masked
with `OperandSize = 16`; in Protected mode beyond the limit it is `#GP(0)`; nothing but EIP changes (R161 to R165).
Model conventions it rests on: log entries 9, 17, 23, 36, 37. -/
def Obligations.RelativeJumps : Prop :=
  ∀ (p : Prefixes) (d8 : Byte) (rel16 : Word16) (rel32 : Word32) (s : State),
    let sum8 := s.eip + BitVec.ofNat 32 (p.count + 2) + d8.signExtend 32
    let t8 := if s.operandSize p = .w16 then sum8 &&& 0x0000FFFF else sum8
    let t16 := (s.eip + BitVec.ofNat 32 (p.count + 3) + rel16.signExtend 32) &&& 0x0000FFFF
    let t32 := s.eip + BitVec.ofNat 32 (p.count + 5) + rel32
    (¬(s.mode = .prot ∧ s.cs.limit < t8) → exec (.jmpRel8 p d8) s = .next { s with eip := t8 }) ∧
    (s.mode = .prot → s.cs.limit < t8 → exec (.jmpRel8 p d8) s = raises .gp (some 0) s) ∧
    (¬(s.mode = .prot ∧ s.cs.limit < t16) → exec (.jmpRel16 p rel16) s = .next { s with eip := t16 }) ∧
    (s.mode = .prot → s.cs.limit < t16 → exec (.jmpRel16 p rel16) s = raises .gp (some 0) s) ∧
    (¬(s.mode = .prot ∧ s.cs.limit < t32) → exec (.jmpRel32 p rel32) s = .next { s with eip := t32 }) ∧
    (s.mode = .prot → s.cs.limit < t32 → exec (.jmpRel32 p rel32) s = raises .gp (some 0) s)

/-- JMP r/m16 and r/m32 with a register operand: EIP becomes the zero-extended low half, or the whole, of the
register, and nothing is read from memory (R166 to R168); a register number names the register of R20. Model
conventions it rests on: log entries 17, 23, 35, 36, 37. -/
def Obligations.IndirectJumpRegister : Prop :=
  ∀ (p : Prefixes) (r : GReg) (s : State),
    let t16 : Word32 := ((s.regs.get r).setWidth 16 : Word16).setWidth 32
    let t32 : Word32 := s.regs.get r
    (¬(s.mode = .prot ∧ s.cs.limit < t16) → exec (.jmpRm16 p (.reg r)) s = .next { s with eip := t16 }) ∧
    (s.mode = .prot → s.cs.limit < t16 → exec (.jmpRm16 p (.reg r)) s = raises .gp (some 0) s) ∧
    (¬(s.mode = .prot ∧ s.cs.limit < t32) → exec (.jmpRm32 p (.reg r)) s = .next { s with eip := t32 }) ∧
    (s.mode = .prot → s.cs.limit < t32 → exec (.jmpRm32 p (.reg r)) s = raises .gp (some 0) s) ∧
    s.regs = { eax := s.regs.get .eax, ecx := s.regs.get .ecx, edx := s.regs.get .edx, ebx := s.regs.get .ebx,
               esp := s.regs.get .esp, ebp := s.regs.get .ebp, esi := s.regs.get .esi, edi := s.regs.get .edi }

/-- JMP r/m16 and r/m32 with a memory operand that can be read: EIP becomes the value read, zero-extended, an absolute
offset to which nothing is added (R166 to R168). Model conventions it rests on: log entries 10, 11, 17, 23, 36, 37. -/
def Obligations.IndirectJumpMemory : Prop :=
  ∀ (p : Prefixes) (rm : RegMem) (r : SReg) (off : Word32) (v16 : Word16) (v32 : Word32) (s : State),
    memoryOperand p rm s = some (r, off) →
    (segRead s 16 r off 2 = .ok v16 → ¬(s.mode = .prot ∧ s.cs.limit < v16.setWidth 32) →
      exec (.jmpRm16 p rm) s = .next { s with eip := v16.setWidth 32 }) ∧
    (segRead s 16 r off 2 = .ok v16 → s.mode = .prot → s.cs.limit < v16.setWidth 32 →
      exec (.jmpRm16 p rm) s = raises .gp (some 0) s) ∧
    (segRead s 32 r off 4 = .ok v32 → ¬(s.mode = .prot ∧ s.cs.limit < v32) →
      exec (.jmpRm32 p rm) s = .next { s with eip := v32 }) ∧
    (segRead s 32 r off 4 = .ok v32 → s.mode = .prot → s.cs.limit < v32 →
      exec (.jmpRm32 p rm) s = raises .gp (some 0) s)

/-- A near JMP that completes changes EIP only: CS, its hidden copy, CPL, the flags, the registers and memory stay
(R169). -/
def Obligations.NearJumpsWriteOnlyEip : Prop :=
  ∀ (i : Instr) (s t : State), isNearJmp i = true → exec i s = .next t → t = { s with eip := t.eip }

/-! ### Memory operands -/

/-- The 16-bit address forms, by their `rm` field (R92). Model conventions it rests on: log entry 35. -/
def Obligations.EffectiveAddress16 : Prop :=
  ∀ (s : State) (d : Disp16) (v : Word16),
    let bx : Word16 := s.regs.ebx.setWidth 16
    let bp : Word16 := s.regs.ebp.setWidth 16
    let si : Word16 := s.regs.esi.setWidth 16
    let di : Word16 := s.regs.edi.setWidth 16
    let disp : Word16 := match d with | .none => 0 | .d8 b => b.signExtend 16 | .d16 w => w
    let at_ := fun n => mem16Offset s (.based (Base16.ofCode n) d)
    let segAt := fun n => mem16Segment (.based (Base16.ofCode n) d)
    at_ 0 = (bx + si + disp).setWidth 32 ∧ at_ 1 = (bx + di + disp).setWidth 32 ∧
    at_ 2 = (bp + si + disp).setWidth 32 ∧ at_ 3 = (bp + di + disp).setWidth 32 ∧
    at_ 4 = (si + disp).setWidth 32 ∧ at_ 5 = (di + disp).setWidth 32 ∧
    at_ 6 = (bp + disp).setWidth 32 ∧ at_ 7 = (bx + disp).setWidth 32 ∧
    segAt 0 = .ds ∧ segAt 1 = .ds ∧ segAt 2 = .ss ∧ segAt 3 = .ss ∧
    segAt 4 = .ds ∧ segAt 5 = .ds ∧ segAt 6 = .ss ∧ segAt 7 = .ds ∧
    mem16Offset s (.direct v) = v.setWidth 32 ∧ mem16Segment (.direct v) = .ds

/-- The 32-bit address forms, modulo `2^32`: the sum as numbers, with the index scaled, and the default segments
(R93). Model conventions it rests on: log entry 35. -/
def Obligations.EffectiveAddress32 : Prop :=
  ∀ (s : State) (r b : GReg) (x : Option GReg) (n : BitVec 2) (d : Disp32) (v : Word32),
    let disp : Nat := match d with | .none => 0 | .d8 y => (y.signExtend 32 : Word32).toNat | .d32 w => w.toNat
    let index : Nat := match x with | none => 0 | some y => (s.regs.get y).toNat * 2 ^ n.toNat
    (mem32Offset s (.direct v)).toNat = v.toNat ∧
    (mem32Offset s (.based r d)).toNat = ((s.regs.get r).toNat + disp) % 2 ^ 32 ∧
    (mem32Offset s (.sib (Scale.ofCode n) x b d)).toNat = ((s.regs.get b).toNat + index + disp) % 2 ^ 32 ∧
    (mem32Offset s (.sibNoBase (Scale.ofCode n) x v)).toNat = (index + v.toNat) % 2 ^ 32 ∧
    mem32Segment (.direct v) = .ds ∧ mem32Segment (.sibNoBase (Scale.ofCode n) x v) = .ds ∧
    (mem32Segment (.based r d) = if r = .ebp ∨ r = .esp then .ss else .ds) ∧
    (mem32Segment (.sib (Scale.ofCode n) x b d) = if b = .ebp ∨ b = .esp then .ss else .ds)

/-- A memory operand any part of which is outside 0 to 0FFFFH in Real or V86 mode: Interrupt 13 without error code in
Real mode, `#GP(0)` in V86 mode (R55, R162, R199, R221). Model conventions it rests on: log entries 24, 37. -/
def Obligations.RealModeOperandBounds : Prop :=
  ∀ (i : Instr) (s : State) (r : SReg) (off : Word32) (n : Nat), operandBytes i s = some (r, off, n) →
    0xFFFF < off.toNat + n - 1 →
    (s.mode = .real → exec i s = raises .gp none s) ∧ (s.mode = .v86 → exec i s = raises .gp (some 0) s)

/-- A memory operand beyond its segment's limit, or in a segment that is not usable for a read, in Protected mode:
`#SS(0)` through SS, `#GP(0)` through any other segment (R55, R162, R199). Model conventions it rests on: log entries
10, 11, 37. -/
def Obligations.ProtectedOperandChecks : Prop :=
  ∀ (i : Instr) (s : State) (r : SReg) (off : Word32) (n : Nat), operandBytes i s = some (r, off, n) →
    s.mode = .prot → (Unusable (s.seg r) ∨ (s.seg r).limit.toNat < off.toNat + n - 1) →
    (r = .ss → exec i s = raises .ss (some 0) s) ∧ (r ≠ .ss → exec i s = raises .gp (some 0) s)

/-- An operand that passes the checks of its mode is the `n` bytes at the linear address base plus offset, modulo
`2^32` (R51, R55), in the segment register that its name says (R29). Model conventions it rests on: log entries 10,
11, 37. -/
def Obligations.SegmentReadWithinBounds : Prop :=
  (∀ (s : State) (r : SReg) (off : Word32) (n w : Nat), 0 < n → OperandInBounds s r off n →
    ∃ a : Word32, a.toNat = ((s.seg r).base.toNat + off.toNat) % 2 ^ 32 ∧ segRead s w r off n = memRead s w a n) ∧
  ∀ (s : State) (r : SReg), s.seg r =
    match r with
    | .cs => s.cs | .ds => s.ds | .es => s.es | .fs => s.fs | .gs => s.gs | .ss => s.ss

/-- A memory operand within the limits whose byte `k` is the first that `Translate` faults on: `#PF` with that fault's
code (R55, R58). Model conventions it rests on: log entries 5, 6, 26, 37. -/
def Obligations.OperandPageFault : Prop :=
  ∀ (i : Instr) (s : State) (r : SReg) (off : Word32) (n k : Nat) (code : Word32),
    operandBytes i s = some (r, off, n) → k < n → s.pg = true → s.mode ≠ .real → OperandInBounds s r off n →
    (∀ j < k, ∃ a, PageMap.find s.pages ((s.seg r).base + off + BitVec.ofNat 32 j) = .physical a) →
    PageMap.find s.pages ((s.seg r).base + off + BitVec.ofNat 32 k) = .pageFault code →
    exec i s = raises .pf (some code) s

/-- A memory operand within the limits, all of whose bytes translate, that memory does not hold whole: the undefined
read of its first missing byte; the same read's page fault comes first (R45, R55, R230). Model conventions it rests
on: log entries 4, 5, 10, 26, 37. -/
def Obligations.OperandUndefinedByte : Prop :=
  ∀ (i : Instr) (s : State) (r : SReg) (off : Word32) (n : Nat) (a : Word32),
    operandBytes i s = some (r, off, n) → OperandInBounds s r off n →
    ReadStops s ((s.seg r).base + off) n (.undefinedRead a s.eip) → exec i s = .fault (.undefinedRead a s.eip)

/-- Byte `k` of a multi-byte read is the byte of memory at the translated address `k` further on, least significant
first (R53). A listed address reads as its entry; an unlisted one has no byte, and an unlisted linear address
translates to itself (R58, R60). Model conventions it rests on: log entries 4, 5, 8, 37. -/
def Obligations.MemReadLittleEndian : Prop :=
  (∀ (s : State) (addr : Word32) (n k : Nat) (v : BitVec (8 * n)), memRead s (8 * n) addr n = .ok v → k < n →
    ∃ a, TranslatesTo s (addr + BitVec.ofNat 32 k) a ∧
      Memory.read s.mem a.toNat = some (v.extractLsb' (8 * k) 8)) ∧
  (∀ (m : Memory) (a : Nat), Memory.read m a = (m.find? (fun c => c.1 == a)).map Prod.snd) ∧
  ∀ (m : PageMap) (lin : Word32),
    PageMap.find m lin = ((m.find? (fun c => c.1 == lin.toNat)).map Prod.snd).getD (.physical lin)

/-- Bytes that all translate and are all defined are read (R53, R55). Model conventions it rests on: log entries 4, 5.
-/
def Obligations.MemReadCompletes : Prop :=
  ∀ (s : State) (addr : Word32) (n w : Nat),
    (∀ k < n, ∃ a b, TranslatesTo s (addr + BitVec.ofNat 32 k) a ∧ Memory.read s.mem a.toNat = some b) →
    ∃ v, memRead s w addr n = .ok v

/-- A 2-byte read returns the low half of the 4-byte read at the same address (R53). Model conventions it rests on:
log entry 8. -/
def Obligations.NarrowReadIsLowHalf : Prop :=
  ∀ (s : State) (addr : Word32) (v : Word32), memRead s 32 addr 4 = .ok v →
    memRead s 16 addr 2 = .ok (v.setWidth 16)

/-- No page fault in Real mode, whatever the page map and PG (R55, R58). Model conventions it rests on: log entry 5. -/
def Obligations.NoPageFaultInRealMode : Prop :=
  ∀ (s : State) (code : Option Word32) (pc : Word32), s.mode = .real →
    step s ≠ .fault (.exception .pf code pc)

/-! ### Descriptors -/

/-- The fields of a selector and the error code made from it (R62, R63, R223). Model conventions it rests on: log
entries 33, 35. -/
def Obligations.SelectorFields : Prop :=
  ∀ sel : Word16,
    sel.toNat = selIndex sel * 8 + (if selLocal sel then 4 else 0) + (selRpl sel).toNat ∧
    isNull sel = decide (sel.toNat < 4) ∧ (errSel sel).toNat = sel.toNat / 4 * 4

/-- A selector is looked up in the GDT or, with the local bit set, in the LDT, never when LDTR holds no usable table;
all eight bytes of the entry must be within the limit; the entry is at base plus eight times the index, modulo `2^32`
(R64). Model conventions it rests on: log entries 27, 35. -/
def Obligations.DescriptorLookup : Prop :=
  ∀ (s : State) (sel : Word16),
    (inTable s sel = true ↔
      if sel.toNat / 4 % 2 = 1 then s.ldtr.usable = true ∧ sel.toNat / 8 * 8 + 7 ≤ s.ldtr.limit.toNat
      else sel.toNat / 8 * 8 + 7 ≤ s.gdtr.limit.toNat) ∧
    readDescriptor s sel = memRead s 64 (descriptorAddress s sel) 8

/-- The fields of a descriptor, from its eight bytes, lowest address first, with the present bit, the DPL and the kind
that the AR byte gives (R65, R66, R67). Model conventions it rests on: log entries 35, 36. -/
def Obligations.DescriptorFields : Prop :=
  ∀ b0 b1 b2 b3 b4 b5 b6 b7 : Byte,
    let d : BitVec 64 := b7 ++ b6 ++ b5 ++ b4 ++ b3 ++ b2 ++ b1 ++ b0
    let raw := (b6.toNat % 16) * 2 ^ 16 + b1.toNat * 2 ^ 8 + b0.toNat
    descBase d = b7 ++ b4 ++ b3 ++ b2 ∧
    (descLimit d).toNat = (if b6.getLsbD 7 then raw * 4096 + 4095 else raw) ∧
    descAr d = b5 ∧ descD d = b6.getLsbD 6 ∧ gateSelector d = b3 ++ b2 ∧
    (descPresent d = true ↔ 128 ≤ b5.toNat) ∧ (descDpl d).toNat = b5.toNat / 32 % 4 ∧
    descKind d = kindRow (b5.toNat / 16 % 2) (b5.toNat % 16) ∧
    (descKind d = .callGate32 → gateOffset d = b7 ++ b6 ++ b1 ++ b0) ∧
    (descKind d = .callGate16 → gateOffset d = (b1 ++ b0).setWidth 32)

/-! ### JMP, far forms -/

/-- All four far forms in Real and V86 mode: the 16 bits of the pointer go to CS, 16 times them to `CS.base`, the
offset to EIP; no check is made and nothing else changes (R52, R184, R185). Model conventions it rests on: log entries
8, 28. -/
def Obligations.FarJumpRealOrV86 : Prop :=
  ∀ (i : Instr) (s : State) (w : Size) (sel : Word16) (off : Word32), HasPointer i s w sel off →
    s.mode ≠ .prot →
    exec i s = .next { s with eip := off, cs := { s.cs with selector := sel, base := sel.setWidth 32 * 16 } }

/-- FF /5 with a register operand raises `#UD` without error code, in every mode (R98, R182, R183). Model conventions
it rests on: log entry 19. -/
def Obligations.FarRegisterFormIsInvalid : Prop :=
  ∀ (p : Prefixes) (r : GReg) (s : State),
    exec (.jmpM16x16 p (.reg r)) s = raises .ud none s ∧ exec (.jmpM16x32 p (.reg r)) s = raises .ud none s

/-- Entry of the Protected-mode far jump: a null selector, an index beyond its table, a descriptor whose read
page-faults or meets an undefined byte, and an illegal AR byte (R186 to R188, R230). Model conventions it rests on:
log entries 4, 5, 26, 33, 35. -/
def Obligations.FarSelectorChecks : Prop :=
  ∀ (i : Instr) (s : State) (w : Size) (sel : Word16) (off : Word32), HasPointer i s w sel off → s.mode = .prot →
    (isNull sel = true → exec i s = raises .gp (some 0) s) ∧
    (isNull sel = false → inTable s sel = false → exec i s = raisesSel .gp sel s) ∧
    (∀ f, isNull sel = false → inTable s sel = true → ReadStops s (descriptorAddress s sel) 8 f →
      exec i s = .fault f) ∧
    ∀ d, isNull sel = false → inTable s sel = true → readDescriptor s sel = .ok d →
      (descKind d = .data ∨ descKind d = .other) → exec i s = raisesSel .gp sel s

/-- A conforming code segment: DPL, presence and limit in this order, then CS and EIP are loaded and CPL stays (R189,
R198). Model conventions it rests on: log entries 12, 13, 28, 31, 33, 37. -/
def Obligations.FarConformingSegment : Prop :=
  ∀ (i : Instr) (s : State) (w : Size) (sel : Word16) (off : Word32) (d : BitVec 64),
    AtDescriptor i s w sel off d → descKind d = .conformingCode →
    (s.cpl < descDpl d → exec i s = raisesSel .gp sel s) ∧
    (descDpl d ≤ s.cpl → descPresent d = false → exec i s = raisesSel .np sel s) ∧
    (descDpl d ≤ s.cpl → descPresent d = true → descLimit d < off → exec i s = raises .gp (some 0) s) ∧
    (descDpl d ≤ s.cpl → descPresent d = true → off ≤ descLimit d → exec i s = .next (entered s sel d off))

/-- A nonconforming code segment: RPL, DPL, presence and limit in this order, then CS and EIP are loaded (R190, R198).
Model conventions it rests on: log entries 12, 13, 31, 33, 37. -/
def Obligations.FarNonconformingSegment : Prop :=
  ∀ (i : Instr) (s : State) (w : Size) (sel : Word16) (off : Word32) (d : BitVec 64),
    AtDescriptor i s w sel off d → descKind d = .nonconformingCode →
    (s.cpl < selRpl sel → exec i s = raisesSel .gp sel s) ∧
    (selRpl sel ≤ s.cpl → descDpl d ≠ s.cpl → exec i s = raisesSel .gp sel s) ∧
    (selRpl sel ≤ s.cpl → descDpl d = s.cpl → descPresent d = false → exec i s = raisesSel .np sel s) ∧
    (selRpl sel ≤ s.cpl → descDpl d = s.cpl → descPresent d = true → descLimit d < off →
      exec i s = raises .gp (some 0) s) ∧
    (selRpl sel ≤ s.cpl → descDpl d = s.cpl → descPresent d = true → off ≤ descLimit d →
      exec i s = .next (entered s sel d off))

/-- The checks on a call gate and on the selector in it, in order, and the stopped read of the descriptor that this
selector names (R191, R192, R230). Model conventions it rests on: log entries 4, 5, 12, 26, 33. -/
def Obligations.CallGateChecks : Prop :=
  ∀ (i : Instr) (s : State) (w : Size) (sel : Word16) (off : Word32) (g : BitVec 64),
    AtDescriptor i s w sel off g → (descKind g = .callGate16 ∨ descKind g = .callGate32) →
    (descDpl g < s.cpl → exec i s = raisesSel .gp sel s) ∧
    (s.cpl ≤ descDpl g → descDpl g < selRpl sel → exec i s = raisesSel .gp sel s) ∧
    (s.cpl ≤ descDpl g → selRpl sel ≤ descDpl g → descPresent g = false → exec i s = raisesSel .np sel s) ∧
    (s.cpl ≤ descDpl g → selRpl sel ≤ descDpl g → descPresent g = true → isNull (gateSelector g) = true →
      exec i s = raises .gp (some 0) s) ∧
    (s.cpl ≤ descDpl g → selRpl sel ≤ descDpl g → descPresent g = true → isNull (gateSelector g) = false →
      inTable s (gateSelector g) = false → exec i s = raisesSel .gp (gateSelector g) s) ∧
    ∀ f, s.cpl ≤ descDpl g → selRpl sel ≤ descDpl g → descPresent g = true → isNull (gateSelector g) = false →
      inTable s (gateSelector g) = true → ReadStops s (descriptorAddress s (gateSelector g)) 8 f →
      exec i s = .fault f

/-- Behind a gate that passed: the code segment's kind, privilege, presence, the gate's size against `OperandSize`,
the limit, and the load of CS:EIP from the gate, the jump's own offset not used (R191, R192). Model conventions it
rests on: log entries 12, 13, 14, 31, 33, 36, 37. -/
def Obligations.CallGateSegment : Prop :=
  ∀ (i : Instr) (s : State) (w : Size) (sel : Word16) (off : Word32) (g c : BitVec 64),
    AtDescriptor i s w sel off g → (descKind g = .callGate16 ∨ descKind g = .callGate32) →
    s.cpl ≤ descDpl g → selRpl sel ≤ descDpl g → descPresent g = true → isNull (gateSelector g) = false →
    inTable s (gateSelector g) = true → readDescriptor s (gateSelector g) = .ok c →
    let code := descKind c = .conformingCode ∧ descDpl c ≤ s.cpl ∨
      descKind c = .nonconformingCode ∧ descDpl c = s.cpl
    let fits := descKind g = .callGate16 ∧ w = .w16 ∨ descKind g = .callGate32 ∧ w = .w32
    (¬ code → exec i s = raisesSel .gp (gateSelector g) s) ∧
    (code → descPresent c = false → exec i s = raisesSel .np (gateSelector g) s) ∧
    (code → descPresent c = true → ¬ fits → exec i s = .refused (.callGateSizeMismatch s.eip)) ∧
    (code → descPresent c = true → fits → descLimit c < gateOffset g → exec i s = raises .gp (some 0) s) ∧
    (code → descPresent c = true → fits → gateOffset g ≤ descLimit c →
      exec i s = .next (entered s (gateSelector g) c (gateOffset g)))

/-- The checks of the task-gate path in order, the stopped read of the TSS descriptor, and the refused switch at the
end (R193, R197, R230). Model conventions it rests on: log entries 4, 5, 12, 15, 26, 33, 34, 36. -/
def Obligations.TaskGateChecks : Prop :=
  ∀ (i : Instr) (s : State) (w : Size) (sel : Word16) (off : Word32) (g : BitVec 64),
    AtDescriptor i s w sel off g → descKind g = .taskGate →
    let tsel := gateSelector g
    (descDpl g < s.cpl → exec i s = raisesSel .gp sel s) ∧
    (s.cpl ≤ descDpl g → descDpl g < selRpl sel → exec i s = raisesSel .gp sel s) ∧
    (s.cpl ≤ descDpl g → selRpl sel ≤ descDpl g → descPresent g = false → exec i s = raisesSel .np sel s) ∧
    (s.cpl ≤ descDpl g → selRpl sel ≤ descDpl g → descPresent g = true →
      (selLocal tsel = true ∨ inTable s tsel = false) → exec i s = raisesSel .gp tsel s) ∧
    (∀ f, s.cpl ≤ descDpl g → selRpl sel ≤ descDpl g → descPresent g = true → selLocal tsel = false →
      inTable s tsel = true → ReadStops s (descriptorAddress s tsel) 8 f → exec i s = .fault f) ∧
    ∀ t, s.cpl ≤ descDpl g → selRpl sel ≤ descDpl g → descPresent g = true → selLocal tsel = false →
      inTable s tsel = true → readDescriptor s tsel = .ok t →
      let avail := descKind t = .availTss16 ∨ descKind t = .availTss32
      (¬ avail → exec i s = raisesSel .gp tsel s) ∧
      (avail → descPresent t = false → exec i s = raisesSel .np tsel s) ∧
      (avail → descPresent t = true → exec i s = .refused (.taskSwitchNotModelled s.eip))

/-- The checks on a TSS named by the jump itself, in order; a busy TSS fails the third; the switch is refused (R194,
R197). Model conventions it rests on: log entries 12, 15, 33, 34, 36. -/
def Obligations.TaskStateSegmentChecks : Prop :=
  ∀ (i : Instr) (s : State) (w : Size) (sel : Word16) (off : Word32) (d : BitVec 64),
    AtDescriptor i s w sel off d →
    descKind d ∈ [Kind.availTss16, Kind.availTss32, Kind.busyTss16, Kind.busyTss32] →
    let avail := descKind d = .availTss16 ∨ descKind d = .availTss32
    (descDpl d < s.cpl → exec i s = raisesSel .gp sel s) ∧
    (s.cpl ≤ descDpl d → descDpl d < selRpl sel → exec i s = raisesSel .gp sel s) ∧
    (s.cpl ≤ descDpl d → selRpl sel ≤ descDpl d → ¬ avail → exec i s = raisesSel .gp sel s) ∧
    (s.cpl ≤ descDpl d → selRpl sel ≤ descDpl d → avail → descPresent d = false → exec i s = raisesSel .np sel s) ∧
    (s.cpl ≤ descDpl d → selRpl sel ≤ descDpl d → avail → descPresent d = true →
      exec i s = .refused (.taskSwitchNotModelled s.eip))

/-- No far jump that completes writes a flag (R196). Model conventions it rests on: log entry 15. -/
def Obligations.FarJumpsWriteNoFlag : Prop :=
  ∀ (i : Instr) (s t : State), isFarJmp i = true → exec i s = .next t → t.eflags = s.eflags

/-- After a far jump that completes, the RPL field of CS equals CPL in Protected mode, and in Real and V86 mode CS
holds the pointer's 16 bits unchanged; EIP and CS are all that changed (R31, R43). Model conventions it rests on: log
entries 13, 31. -/
def Obligations.FarJumpFrame : Prop :=
  ∀ (i : Instr) (s t : State), isFarJmp i = true → exec i s = .next t →
    t = { s with eip := t.eip, cs := t.cs } ∧
    (s.mode = .prot → selRpl t.cs.selector = s.cpl) ∧
    (s.mode ≠ .prot → ∀ w sel off, HasPointer i s w sel off → t.cs.selector = sel)

/-! ### The machine -/

/-- When the bytes fetched at CS:EIP decode to an instruction, the step is its meaning, and nothing is added around it
(R11, R12). The default size under which they decode is 32 exactly in Protected mode with `CS.D = 1`, and a prefix
byte 66 or 67 gives the other size to the operand or the address (R40, R41; the spec's decision D3); each prefix byte
is one byte of the length (R88). Model conventions it rests on: log entries 25, 35. -/
def Obligations.StepRunsDecodedInstruction : Prop :=
  (∀ (s : State) (i : Instr) (rest : List Byte),
    decode s.defaultSize (fetchBytes s Config.maxInsnLen 0).1 = .ok i rest → step s = exec i s) ∧
  ∀ (s : State) (p : Prefixes),
    let default32 := s.mode = .prot ∧ s.cs.d = true
    (s.defaultSize = .w32 ↔ default32) ∧ (s.operandSize p = .w32 ↔ (default32 ↔ p.opSize = false)) ∧
    (p.addressSize s.defaultSize = .w32 ↔ (default32 ↔ p.addrSize = false)) ∧
    p.count = (if p.opSize then 1 else 0) + (if p.addrSize then 1 else 0) + (if p.seg = none then 0 else 1)

/-- When the bytes of a well-formed instruction stand at CS:EIP and can be fetched, the step is its meaning, whatever
follows them, be it unreadable (R12, R56, R226). Model conventions it rests on: log entries 9, 20, 25, 37. -/
def Obligations.StepRunsEncodedBytes : Prop :=
  ∀ (s : State) (i : Instr), wellFormed s.defaultSize i = true →
    (∀ k b, (encode i)[k]? = some b → Fetches s k b) → step s = exec i s

/-- A step changes EIP and CS and nothing else: no general register, flag, other segment register, CPL, control or
table register, and no byte of memory (R43, R72). Model conventions it rests on: log entries 13, 16. -/
def Obligations.StepChangesOnlyEipAndCs : Prop :=
  ∀ s t : State, step s = .next t →
    t = { s with eip := t.eip, cs := t.cs } ∧ (t.cs ≠ s.cs → ∃ i, fetchInstr s = .ok i ∧ isFarJmp i = true)

/-- The invariant `StateOk` holds after every step from every state that meets it (R27, R31, R34, R50). Model
conventions it rests on: log entry 31. -/
def Obligations.StateOkKept : Prop :=
  ∀ s t : State, StateOk s → step s = .next t → StateOk t

/-- The reset state meets `StateOk`. Model conventions it rests on: log entries 1, 2. -/
def Obligations.StateOkAtReset : Prop := StateOk State.reset

/-- The launch premises on CS hold after every step from every state that meets them: in Real and V86 mode the base is
16 times the selector, in Protected mode CS names a descriptor whose copy it holds, with RPL = CPL (R252, R69, R31).
All the launch premises, TF = 0 and the mapped bytes among them, hold after every step of a run that is not at its end
(R252, R238, R240). Model conventions it rests on: log entries 13, 16, 28, 30, 31, 39, 41. -/
def Obligations.LaunchPremisesKept : Prop :=
  ∀ s t : State, step s = .next t → (CsPremises s → CsPremises t) ∧
    ∀ e : EndAddress, atEnd e s = false → LaunchPremises e s → LaunchPremises e t

/-- Every stop of a step names the EIP of the instruction it stopped at (R228, R229). Model conventions it rests on:
log entries 15, 14, 17, 18. -/
def Obligations.StopsNameTheirInstruction : Prop :=
  ∀ s : State,
    (∀ k c pc, step s = .fault (.exception k c pc) → pc = s.eip) ∧
    (∀ a pc, step s = .fault (.undefinedRead a pc) → pc = s.eip) ∧
    (∀ q, step s = .refused q →
      q ∈ [Refusal.opcodeOutOfScope s.eip, .prefixNotModelled s.eip, .taskSwitchNotModelled s.eip,
        .callGateSizeMismatch s.eip])

/-- The only exceptions of a step are those of R220 with the codes it gives them: no `#TS`; `#UD` without code and
only from FF /5 with a register; `#SS(0)` only in Protected mode; `#NP` with a selector's code, only from a far jump
in Protected mode; `#PF` with the code that `Translate` gives some address, never in Real mode; a `#GP` without code
in Real mode, with code 0 in V86 mode and with a selector's code or 0 in Protected mode (R199, R220, R221, R223).
Model conventions it rests on: log entries 5, 6, 15, 19, 24, 33. -/
def Obligations.ExceptionCodes : Prop :=
  ∀ (s : State) (k : ExceptionKind) (c : Option Word32) (pc : Word32),
    step s = .fault (.exception k c pc) →
    k ≠ .ts ∧
    (k = .ud → c = none ∧
      ∃ p r, fetchInstr s = .ok (.jmpM16x16 p (.reg r)) ∨ fetchInstr s = .ok (.jmpM16x32 p (.reg r))) ∧
    (k = .ss → c = some 0 ∧ s.mode = .prot) ∧
    (k = .np → s.mode = .prot ∧ (∃ i, fetchInstr s = .ok i ∧ isFarJmp i = true) ∧
      ∃ sel : Word16, c = some ((sel &&& 0xFFFC).setWidth 32)) ∧
    (k = .pf → ∃ lin code, TranslateFaults s lin code ∧ c = some code) ∧
    (k = .gp → (c = none ↔ s.mode = .real) ∧ (s.mode = .v86 → c = some 0) ∧
      (s.mode = .prot → ∃ sel : Word16, c = some ((sel &&& 0xFFFC).setWidth 32)))

/-- A byte that the instruction needs, the first one or a later one, at an offset beyond the code-segment limit is the
`#GP` of the mode (R56, R221, R226). Model conventions it rests on: log entries 9, 24, 25, 37. -/
def Obligations.FetchBeyondLimit : Prop :=
  ∀ (s : State) (k : Nat), NeedsByte s k → s.cs.limit < s.eip + BitVec.ofNat 32 k →
    (s.mode = .real → step s = raises .gp none s) ∧ (s.mode ≠ .real → step s = raises .gp (some 0) s)

/-- A byte that the instruction needs, within the limit, whose linear address page-faults or which memory does not
hold: `#PF` with `Translate`'s code, or the undefined read (R56, R58, R226, R230). Model conventions it rests on: log
entries 4, 5, 9, 25, 37. -/
def Obligations.FetchStopsAtByte : Prop :=
  ∀ (s : State) (k : Nat), NeedsByte s k → s.eip + BitVec.ofNat 32 k ≤ s.cs.limit →
    let lin := s.cs.base + (s.eip + BitVec.ofNat 32 k)
    (∀ code, TranslateFaults s lin code → step s = raises .pf (some code) s) ∧
    ∀ a, TranslatesTo s lin a → Memory.read s.mem a.toNat = none → step s = .fault (.undefinedRead a s.eip)

/-- An instruction placed at the fetch address is the one the next step runs, in Real mode, where its ten bytes are
within the limit: the model's way of loading a program (log entry 22; R12, R56). Model conventions it rests on: log
entries 21, 22. -/
def Obligations.PlacedInstructionRuns : Prop :=
  ∀ (s : State) (nbits w : Nat) (i : Instr) (rest : List Byte), s.mode = .real →
    s.eip.toNat + 9 ≤ s.cs.limit.toNat →
    decode s.defaultSize (natBytes (w % 2 ^ nbits) 10 0) = .ok i rest →
    step (s.withFetchWord nbits w) = exec i (s.withFetchWord nbits w)

/-- The reset state, as the general-knowledge table of R44 gives it (log entry 1: the model's choice of
`LaunchState`). Model conventions it rests on: log entry 1. -/
def Obligations.ResetState : Prop :=
  State.reset.eip = 0x0000FFF0 ∧ State.reset.cs.selector = 0xF000 ∧ State.reset.cs.base = 0xFFFF0000 ∧
  State.reset.cs.limit = 0xFFFF ∧ State.reset.eflags = 0x00000002 ∧ State.reset.mode = .real ∧
  State.reset.pg = false ∧ State.reset.cpl = 0 ∧
  ∀ r : SReg, r ≠ .cs → (State.reset.seg r).selector = 0 ∧ (State.reset.seg r).base = 0 ∧
    (State.reset.seg r).limit = 0xFFFF

/-- A run is over exactly where CS and EIP are the end address before a step, and no instruction is fetched there
(R240). Model conventions it rests on: log entry 30. -/
def Obligations.RunEndsAtEndAddress : Prop :=
  ∀ (e : EndAddress) (n : Nat) (s t : State),
    (s.cs.selector = e.selector → s.eip = e.offset → runTo e n s = .final s) ∧
    (runTo e n s = .final t → t.cs.selector = e.selector ∧ t.eip = e.offset)

/-- The `ts` table figure by figure; through a task gate 9 more, from a 286 task 2 less, in every column; a task
switch by a direct far JMP costs `ts`, by one from memory `5 + ts` (R261, R263). Model conventions it rests on: log
entry 29. -/
def Obligations.TaskSwitchClocks : Prop :=
  tsClocks .tss386 .tss386 false = 303 ∧ tsClocks .tss386 .tss386 true = 312 ∧
  tsClocks .tss386 .task386Vm false = 220 ∧ tsClocks .tss386 .task386Vm true = 229 ∧
  tsClocks .tss386 .tss286 false = 276 ∧ tsClocks .tss386 .tss286 true = 285 ∧
  tsClocks .tss286 .tss386 false = 301 ∧ tsClocks .tss286 .tss386 true = 310 ∧
  tsClocks .tss286 .task386Vm false = 218 ∧ tsClocks .tss286 .task386Vm true = 227 ∧
  tsClocks .tss286 .tss286 false = 274 ∧ tsClocks .tss286 .tss286 true = 283 ∧
  (∀ old new, tsClocks old new true = tsClocks old new false + 9) ∧
  (∀ new gate, tsClocks .tss286 new gate + 2 = tsClocks .tss386 new gate) ∧
  farDirectClocks .taskSwitch = .plusTs 0 ∧ farIndirectClocks .taskSwitch = .plusTs 5
end

