-- ==== Sys2Proof/Laws/Decode.lean ====
section
/-! SUPPORT. Lemmas about field codes, byte order, the stream readers and the lengths of encodings, for proofs about the
decoder and the encoder. -/

namespace Sys2Proof

@[simp] theorem GReg.ofCode_code (r : GReg) : GReg.ofCode r.code = r := by cases r <;> rfl
@[simp] theorem Cond.ofCode_code (c : Cond) : Cond.ofCode c.code = c := by cases c <;> rfl
@[simp] theorem Base16.ofCode_code (b : Base16) : Base16.ofCode b.code = b := by cases b <;> rfl
@[simp] theorem Scale.ofCode_code (s : Scale) : Scale.ofCode s.code = s := by cases s <;> rfl

theorem indexOfCode_indexCode (x : Option GReg) (h : indexOk x = true) :
    indexOfCode (indexCode x) = x := by
  rcases x with _ | r
  · rfl
  · cases r <;> first | rfl | cases h

theorem prefixByte_override (x : SReg) : prefixByte x.overrideByte = some (.seg x) := by
  cases x <;> rfl

/-! ### Byte order -/

theorem word16_le (v : Word16) : word16 (v.extractLsb' 0 8) (v.extractLsb' 8 8) = v := by
  apply BitVec.eq_of_getLsbD_eq
  intro i hi
  simp only [word16, BitVec.getLsbD_append, BitVec.getLsbD_extractLsb']
  by_cases h : i < 8
  · simp [h]
  · simp [h, show i - 8 < 8 by omega, show 8 + (i - 8) = i by omega]

theorem word32_le (v : Word32) :
    word32 (v.extractLsb' 0 8) (v.extractLsb' 8 8) (v.extractLsb' 16 8) (v.extractLsb' 24 8) = v := by
  apply BitVec.eq_of_getLsbD_eq
  intro i hi
  simp only [word32, BitVec.getLsbD_append, BitVec.getLsbD_extractLsb']
  by_cases h : i < 8
  · simp [h]
  by_cases h1 : i - 8 < 8
  · simp [h, h1, show 8 + (i - 8) = i by omega]
  by_cases h2 : i - 8 - 8 < 8
  · simp [h, h1, h2, show 16 + (i - 8 - 8) = i by omega]
  · simp [h, h1, h2, show i - 8 - 8 - 8 < 8 by omega, show 24 + (i - 8 - 8 - 8) = i by omega]

/-! ### Stream readers -/

@[simp] theorem takeByte_cons (b : Byte) (r : List Byte) : takeByte (b :: r) = some (b, r) := rfl

@[simp] theorem takeWord16_le (v : Word16) (r : List Byte) : takeWord16 (leBytes16 v ++ r) = some (v, r) := by
  simp [takeWord16, leBytes16, word16_le]

@[simp] theorem takeWord32_le (v : Word32) (r : List Byte) : takeWord32 (leBytes32 v ++ r) = some (v, r) := by
  simp [takeWord32, leBytes32, word32_le]

@[simp] theorem takePtr16_le (off sel : Word16) (r : List Byte) :
    takePtr16 (leBytes16 off ++ (leBytes16 sel ++ r)) = some ((off, sel), r) := by
  simp [takePtr16]

@[simp] theorem takePtr32_le (off : Word32) (sel : Word16) (r : List Byte) :
    takePtr32 (leBytes32 off ++ (leBytes16 sel ++ r)) = some ((off, sel), r) := by
  simp [takePtr32]

/-! ### Lengths (R88) -/

@[simp] theorem leBytes16_length (v : Word16) : (leBytes16 v).length = 2 := rfl
@[simp] theorem leBytes32_length (v : Word32) : (leBytes32 v).length = 4 := rfl

@[simp] theorem Disp32.bytes_length (d : Disp32) : d.bytes.length = d.byteCount := by cases d <;> rfl

@[simp] theorem RegMem.bytes_length (digit : BitVec 3) (rm : RegMem) :
    (rm.bytes digit).length = 1 + rm.extraBytes := by
  rcases rm with r | m | m
  · rfl
  · rcases m with d | ⟨b, d⟩
    · rfl
    · cases d <;> rfl
  · cases m <;>
      simp only [RegMem.bytes, Mem32.bytes, RegMem.extraBytes, Mem32.extraBytes, List.length_cons,
        Disp32.bytes_length, leBytes32_length] <;> omega

@[simp] theorem Shape.bytes_length (x : Shape) : x.bytes.length = x.length := by
  cases x <;> simp [Shape.bytes, Shape.length] <;> omega

@[simp] theorem Prefixes.bytes_length (p : Prefixes) : p.bytes.length = p.count := by
  rcases p with ⟨o, a, x⟩
  cases o <;> cases a <;> cases x <;> rfl

/-- The bytes of an instruction, from its parts alone. -/
theorem encode_length_parts (i : Instr) : (encode i).length = i.length := by
  simp [encode, Instr.length]

end Sys2Proof
end

