-- ==== Sys2Proof/Laws/State.lean ====
section
/-! SUPPORT. One lemma per field per update of the state, and what the updates leave of the views computed from it. -/

namespace Sys2Proof.Machine

variable (s : State) (t : Word32) (c : Segment) (m : Memory)

@[simp] theorem withEip_regs : (s.withEip t).regs = s.regs := rfl
@[simp] theorem withEip_eip : (s.withEip t).eip = t := rfl
@[simp] theorem withEip_eflags : (s.withEip t).eflags = s.eflags := rfl
@[simp] theorem withEip_cs : (s.withEip t).cs = s.cs := rfl
@[simp] theorem withEip_ds : (s.withEip t).ds = s.ds := rfl
@[simp] theorem withEip_es : (s.withEip t).es = s.es := rfl
@[simp] theorem withEip_fs : (s.withEip t).fs = s.fs := rfl
@[simp] theorem withEip_gs : (s.withEip t).gs = s.gs := rfl
@[simp] theorem withEip_ss : (s.withEip t).ss = s.ss := rfl
@[simp] theorem withEip_cpl : (s.withEip t).cpl = s.cpl := rfl
@[simp] theorem withEip_cr0 : (s.withEip t).cr0 = s.cr0 := rfl
@[simp] theorem withEip_gdtr : (s.withEip t).gdtr = s.gdtr := rfl
@[simp] theorem withEip_ldtr : (s.withEip t).ldtr = s.ldtr := rfl
@[simp] theorem withEip_tr : (s.withEip t).tr = s.tr := rfl
@[simp] theorem withEip_pages : (s.withEip t).pages = s.pages := rfl
@[simp] theorem withEip_mem : (s.withEip t).mem = s.mem := rfl

@[simp] theorem withCsEip_regs : (s.withCsEip c t).regs = s.regs := rfl
@[simp] theorem withCsEip_eip : (s.withCsEip c t).eip = t := rfl
@[simp] theorem withCsEip_eflags : (s.withCsEip c t).eflags = s.eflags := rfl
@[simp] theorem withCsEip_cs : (s.withCsEip c t).cs = c := rfl
@[simp] theorem withCsEip_ds : (s.withCsEip c t).ds = s.ds := rfl
@[simp] theorem withCsEip_es : (s.withCsEip c t).es = s.es := rfl
@[simp] theorem withCsEip_fs : (s.withCsEip c t).fs = s.fs := rfl
@[simp] theorem withCsEip_gs : (s.withCsEip c t).gs = s.gs := rfl
@[simp] theorem withCsEip_ss : (s.withCsEip c t).ss = s.ss := rfl
@[simp] theorem withCsEip_cpl : (s.withCsEip c t).cpl = s.cpl := rfl
@[simp] theorem withCsEip_cr0 : (s.withCsEip c t).cr0 = s.cr0 := rfl
@[simp] theorem withCsEip_gdtr : (s.withCsEip c t).gdtr = s.gdtr := rfl
@[simp] theorem withCsEip_ldtr : (s.withCsEip c t).ldtr = s.ldtr := rfl
@[simp] theorem withCsEip_tr : (s.withCsEip c t).tr = s.tr := rfl
@[simp] theorem withCsEip_pages : (s.withCsEip c t).pages = s.pages := rfl
@[simp] theorem withCsEip_mem : (s.withCsEip c t).mem = s.mem := rfl

@[simp] theorem withMem_regs : ({ s with mem := m } : State).regs = s.regs := rfl
@[simp] theorem withMem_eip : ({ s with mem := m } : State).eip = s.eip := rfl
@[simp] theorem withMem_eflags : ({ s with mem := m } : State).eflags = s.eflags := rfl
@[simp] theorem withMem_cs : ({ s with mem := m } : State).cs = s.cs := rfl
@[simp] theorem withMem_ds : ({ s with mem := m } : State).ds = s.ds := rfl
@[simp] theorem withMem_es : ({ s with mem := m } : State).es = s.es := rfl
@[simp] theorem withMem_fs : ({ s with mem := m } : State).fs = s.fs := rfl
@[simp] theorem withMem_gs : ({ s with mem := m } : State).gs = s.gs := rfl
@[simp] theorem withMem_ss : ({ s with mem := m } : State).ss = s.ss := rfl
@[simp] theorem withMem_cpl : ({ s with mem := m } : State).cpl = s.cpl := rfl
@[simp] theorem withMem_cr0 : ({ s with mem := m } : State).cr0 = s.cr0 := rfl
@[simp] theorem withMem_gdtr : ({ s with mem := m } : State).gdtr = s.gdtr := rfl
@[simp] theorem withMem_ldtr : ({ s with mem := m } : State).ldtr = s.ldtr := rfl
@[simp] theorem withMem_tr : ({ s with mem := m } : State).tr = s.tr := rfl
@[simp] theorem withMem_pages : ({ s with mem := m } : State).pages = s.pages := rfl
@[simp] theorem withMem_mem : ({ s with mem := m } : State).mem = m := rfl

@[simp] theorem withEip_mode : (s.withEip t).mode = s.mode := rfl
@[simp] theorem withCsEip_mode : (s.withCsEip c t).mode = s.mode := rfl
@[simp] theorem withMem_mode : ({ s with mem := m } : State).mode = s.mode := rfl
@[simp] theorem withEip_flags : (s.withEip t).flags = s.flags := rfl
@[simp] theorem withCsEip_flags : (s.withCsEip c t).flags = s.flags := rfl
@[simp] theorem withMem_flags : ({ s with mem := m } : State).flags = s.flags := rfl
@[simp] theorem withEip_pe : (s.withEip t).pe = s.pe := rfl
@[simp] theorem withCsEip_pe : (s.withCsEip c t).pe = s.pe := rfl
@[simp] theorem withMem_pe : ({ s with mem := m } : State).pe = s.pe := rfl
@[simp] theorem withEip_vm : (s.withEip t).vm = s.vm := rfl
@[simp] theorem withCsEip_vm : (s.withCsEip c t).vm = s.vm := rfl
@[simp] theorem withMem_vm : ({ s with mem := m } : State).vm = s.vm := rfl
@[simp] theorem withEip_pg : (s.withEip t).pg = s.pg := rfl
@[simp] theorem withCsEip_pg : (s.withCsEip c t).pg = s.pg := rfl
@[simp] theorem withMem_pg : ({ s with mem := m } : State).pg = s.pg := rfl
@[simp] theorem withEip_cf : (s.withEip t).cf = s.cf := rfl
@[simp] theorem withCsEip_cf : (s.withCsEip c t).cf = s.cf := rfl
@[simp] theorem withMem_cf : ({ s with mem := m } : State).cf = s.cf := rfl
@[simp] theorem withEip_pf : (s.withEip t).pf = s.pf := rfl
@[simp] theorem withCsEip_pf : (s.withCsEip c t).pf = s.pf := rfl
@[simp] theorem withMem_pf : ({ s with mem := m } : State).pf = s.pf := rfl
@[simp] theorem withEip_zf : (s.withEip t).zf = s.zf := rfl
@[simp] theorem withCsEip_zf : (s.withCsEip c t).zf = s.zf := rfl
@[simp] theorem withMem_zf : ({ s with mem := m } : State).zf = s.zf := rfl
@[simp] theorem withEip_sf : (s.withEip t).sf = s.sf := rfl
@[simp] theorem withCsEip_sf : (s.withCsEip c t).sf = s.sf := rfl
@[simp] theorem withMem_sf : ({ s with mem := m } : State).sf = s.sf := rfl
@[simp] theorem withEip_tf : (s.withEip t).tf = s.tf := rfl
@[simp] theorem withCsEip_tf : (s.withCsEip c t).tf = s.tf := rfl
@[simp] theorem withMem_tf : ({ s with mem := m } : State).tf = s.tf := rfl
@[simp] theorem withEip_of : (s.withEip t).of = s.of := rfl
@[simp] theorem withCsEip_of : (s.withCsEip c t).of = s.of := rfl
@[simp] theorem withMem_of : ({ s with mem := m } : State).of = s.of := rfl
@[simp] theorem withEip_defaultSize : (s.withEip t).defaultSize = s.defaultSize := rfl
@[simp] theorem withMem_defaultSize : ({ s with mem := m } : State).defaultSize = s.defaultSize := rfl
@[simp] theorem withEip_reg32 (r : GReg) : (s.withEip t).reg32 r = s.reg32 r := rfl
@[simp] theorem withEip_reg16 (r : GReg) : (s.withEip t).reg16 r = s.reg16 r := rfl
@[simp] theorem withEip_seg (r : SReg) : (s.withEip t).seg r = s.seg r := by cases r <;> rfl
@[simp] theorem withMem_seg (r : SReg) : ({ s with mem := m } : State).seg r = s.seg r := by cases r <;> rfl

@[simp] theorem get_set_same (g : GRegs) (r : GReg) (v : Word32) : (g.set r v).get r = v := by
  cases r <;> rfl

theorem get_set_other (g : GRegs) (r q : GReg) (v : Word32) (h : q ≠ r) : (g.set r v).get q = g.get q := by
  cases r <;> cases q <;> first | rfl | exact absurd rfl h

end Sys2Proof.Machine
end

