-- ==== Sys2Proof/Laws/Ops.lean ====
section
/-! SUPPORT. One lemma per shared operation that says once what it can do, for proofs that cite it instead of unfolding
the operation. -/

namespace Sys2Proof.Machine

/-! ### Outcomes -/

@[simp] theorem finish_ok (s : State) : finish (.ok s) = .next s := rfl
@[simp] theorem finish_fault (f : Fault) : finish (.error (.fault f)) = .fault f := rfl
@[simp] theorem finish_refused (q : Refusal) : finish (.error (.refused q)) = .refused q := rfl

theorem finish_eq_next (r : Res State) (t : State) : finish r = .next t ↔ r = .ok t := by
  rcases r with (f | q) | u <;> simp [finish]

theorem finish_eq_fault (r : Res State) (f : Fault) : finish r = .fault f ↔ r = .error (.fault f) := by
  rcases r with (g | q) | u <;> simp [finish]

theorem finish_eq_refused (r : Res State) (q : Refusal) :
    finish r = .refused q ↔ r = .error (.refused q) := by
  rcases r with (g | p) | u <;> simp [finish]

theorem raise_eq {α : Type} (k : ExceptionKind) (c : Option Word32) (s : State) :
    (raise k c s : Res α) = .error (.fault (.exception k c s.eip)) := rfl

/-- A raised exception is never a result. -/
theorem raise_ne_ok {α : Type} (k : ExceptionKind) (c : Option Word32) (s : State) (x : α) :
    (raise k c s : Res α) ≠ .ok x := by simp [raise]

/-! ### Translation and reads -/

theorem translateLinear_eq_ok (s : State) (a b : Word32) (h : translateLinear s a = .ok b) :
    ((s.mode = .real ∨ s.pg = false) ∧ b = a) ∨
      (s.mode ≠ .real ∧ s.pg = true ∧ PageMap.find s.pages a = .physical b) := by
  unfold translateLinear at h
  split at h
  · rename_i hm
    exact .inl ⟨hm, by simpa using h.symm⟩
  · rename_i hm
    simp only [not_or, Bool.not_eq_false] at hm
    split at h
    · rename_i x hx
      cases h
      exact .inr ⟨hm.1, hm.2, hx⟩
    · cases h

theorem translateLinear_real (s : State) (a : Word32) (h : s.mode = .real) : translateLinear s a = .ok a := by
  simp [translateLinear, h]

/-- A translation that does not answer is a page fault, in Protected or V86 mode with paging on. -/
theorem translateLinear_eq_error (s : State) (a : Word32) (e : Stop) (h : translateLinear s a = .error e) :
    s.mode ≠ .real ∧ s.pg = true ∧
      ∃ c, PageMap.find s.pages a = .pageFault c ∧ e = .fault (.exception .pf (some c) s.eip) := by
  unfold translateLinear at h
  split at h
  · cases h
  · rename_i hm
    simp only [not_or, Bool.not_eq_false] at hm
    split at h
    · cases h
    · rename_i c hc
      refine ⟨hm.1, hm.2, c, hc, ?_⟩
      simpa [raise] using h.symm

theorem readPhysical_eq_ok (s : State) (a : Word32) (b : Byte) :
    readPhysical s a = .ok b ↔ Memory.read s.mem a.toNat = some b := by
  unfold readPhysical
  split <;> rename_i h <;> simp [h]

/-- A physical read that does not answer is an undefined byte. -/
theorem readPhysical_eq_error (s : State) (a : Word32) (e : Stop) (h : readPhysical s a = .error e) :
    Memory.read s.mem a.toNat = none ∧ e = .fault (.undefinedRead a s.eip) := by
  unfold readPhysical at h
  split at h
  · cases h
  · rename_i hn
    exact ⟨hn, by simpa using h.symm⟩

/-- A read of `n` bytes translates every byte first, then reads every byte. -/
theorem readLinear_eq_ok (s : State) (a : Word32) (n : Nat) (bs : List Byte) :
    readLinear s a n = .ok bs ↔ ∃ ps, translateRange s a n = .ok ps ∧ readPhysicals s ps = .ok bs := by
  unfold readLinear
  cases translateRange s a n <;> simp

theorem memRead_eq_ok (s : State) (w : Nat) (a : Word32) (n : Nat) (v : BitVec w) :
    memRead s w a n = .ok v ↔ ∃ bs, readLinear s a n = .ok bs ∧ v = leWord w bs := by
  unfold memRead
  cases readLinear s a n <;> simp [eq_comm]

/-- A segment read that answers passed its checks and is the read at the linear address. -/
theorem segRead_eq_ok (s : State) (w : Nat) (r : SReg) (off : Word32) (n : Nat) (v : BitVec w)
    (h : segRead s w r off n = .ok v) :
    memRead s w (lin (s.seg r) off) n = .ok v ∧
      (s.mode = .prot → notReadable (s.seg r) = false ∧ off.toNat + (n - 1) ≤ (s.seg r).limit.toNat) ∧
      (s.mode ≠ .prot → off.toNat + (n - 1) ≤ 0xFFFF) := by
  simp only [segRead] at h
  by_cases hm : s.mode = .prot
  · simp only [hm, if_true] at h
    split at h
    · exact absurd h (raise_ne_ok _ _ _ _)
    · rename_i hc
      simp only [not_or, Bool.not_eq_true, not_lt] at hc
      exact ⟨h, fun _ => hc, fun hn => absurd hm hn⟩
  · simp only [hm, if_false] at h
    split at h
    · exact absurd h (raise_ne_ok _ _ _ _)
    · rename_i hc
      exact ⟨h, fun hn => absurd hn hm, fun _ => by simpa [Config.realOffsetMax] using hc⟩

/-! ### How reads stop -/

/-- How a read of memory stops: on a page fault in Protected or V86 mode with paging on, or on a byte that memory does
not hold. -/
def ReadStop (s : State) (e : Stop) : Prop :=
  (∃ a c, s.mode ≠ .real ∧ s.pg = true ∧ PageMap.find s.pages a = .pageFault c ∧
    e = .fault (.exception .pf (some c) s.eip)) ∨
  ∃ a, Memory.read s.mem a.toNat = none ∧ e = .fault (.undefinedRead a s.eip)

theorem translateLinear_stop (s : State) (a : Word32) (e : Stop) (h : translateLinear s a = .error e) :
    ReadStop s e := by
  obtain ⟨hm, hp, c, hc, rfl⟩ := translateLinear_eq_error s a e h
  exact .inl ⟨a, c, hm, hp, hc, rfl⟩

theorem readPhysical_stop (s : State) (a : Word32) (e : Stop) (h : readPhysical s a = .error e) : ReadStop s e := by
  obtain ⟨hn, rfl⟩ := readPhysical_eq_error s a e h
  exact .inr ⟨a, hn, rfl⟩

theorem translateRange_stop (s : State) (n : Nat) :
    ∀ (a : Word32) (e : Stop), translateRange s a n = .error e → ReadStop s e := by
  induction n with
  | zero => exact fun _ _ h => by cases h
  | succ n ih =>
    intro a e h
    simp only [translateRange] at h
    split at h
    · rename_i hb
      cases h
      exact translateLinear_stop s a _ hb
    · split at h
      · rename_i hbs
        cases h
        exact ih _ _ hbs
      · cases h

theorem readPhysicals_stop (s : State) (ps : List Word32) :
    ∀ e : Stop, readPhysicals s ps = .error e → ReadStop s e := by
  induction ps with
  | nil => exact fun _ h => by cases h
  | cons a ps ih =>
    intro e h
    simp only [readPhysicals] at h
    split at h
    · rename_i hb
      cases h
      exact readPhysical_stop s a _ hb
    · split at h
      · rename_i hbs
        cases h
        exact ih _ hbs
      · cases h

theorem memRead_stop (s : State) (w : Nat) (a : Word32) (n : Nat) (e : Stop) (h : memRead s w a n = .error e) :
    ReadStop s e := by
  simp only [memRead, readLinear] at h
  split at h
  · rename_i hl
    cases h
    split at hl
    · rename_i ht
      cases hl
      exact translateRange_stop s n a _ ht
    · exact readPhysicals_stop s _ _ hl
  · cases h

/-- An operand that is not read is `#SS(0)` through SS or the `#GP` of the mode, or its read of memory stops. -/
theorem segRead_stop (s : State) (w : Nat) (r : SReg) (off : Word32) (n : Nat) (e : Stop)
    (h : segRead s w r off n = .error e) :
    (s.mode = .prot ∧ r = .ss ∧ e = .fault (.exception .ss (some 0) s.eip)) ∨
      e = .fault (.exception .gp (if s.mode = .real then none else some 0) s.eip) ∨ ReadStop s e := by
  simp only [segRead] at h
  by_cases hm : s.mode = .prot
  · simp only [hm, if_true] at h
    split at h
    · by_cases hr : r = .ss
      · exact .inl ⟨hm, hr, by simpa [raise, hr] using h.symm⟩
      · exact .inr (.inl (by simpa [raise, hr, hm] using h.symm))
    · exact .inr (.inr (memRead_stop _ _ _ _ _ h))
  · simp only [hm, if_false] at h
    split at h
    · exact .inr (.inl (by simpa [raiseOffsetGp, raise] using h.symm))
    · exact .inr (.inr (memRead_stop _ _ _ _ _ h))

/-! ### Fetching a byte -/

/-- A byte that is fetched is within the limit, and is the byte of memory at the translated address. -/
theorem fetchByte_eq_ok (s : State) (k : Nat) (b : Byte) :
    fetchByte s k = .ok b ↔ ¬ s.cs.limit < fetchOffset s k ∧
      ∃ a, translateLinear s (lin s.cs (fetchOffset s k)) = .ok a ∧ Memory.read s.mem a.toNat = some b := by
  unfold fetchByte
  by_cases hl : s.cs.limit < fetchOffset s k
  · simp [hl, raiseOffsetGp, raise]
  · cases translateLinear s (lin s.cs (fetchOffset s k)) <;> simp [hl, readPhysical_eq_ok]

/-- A byte that is not fetched is the `#GP` of the mode beyond the limit, or its read of memory stops. -/
theorem fetchByte_stop (s : State) (k : Nat) (e : Stop) (h : fetchByte s k = .error e) :
    (s.cs.limit < fetchOffset s k ∧
        e = .fault (.exception .gp (if s.mode = .real then none else some 0) s.eip)) ∨ ReadStop s e := by
  unfold fetchByte at h
  split at h
  · rename_i hl
    exact .inl ⟨hl, by simpa [raiseOffsetGp, raise] using h.symm⟩
  · split at h
    · rename_i ht
      cases h
      exact .inr (translateLinear_stop s _ _ ht)
    · exact .inr (readPhysical_stop s _ _ h)

/-- The bytes fetched one after another stop where one of them does. -/
theorem fetchBytes_stop (s : State) (n : Nat) :
    ∀ (k : Nat) (e : Stop), (fetchBytes s n k).2 = some e → ∃ j, fetchByte s j = .error e := by
  induction n with
  | zero => exact fun _ _ h => by cases h
  | succ n ih =>
    intro k e h
    simp only [fetchBytes] at h
    split at h
    · rename_i hb
      exact ⟨k, by rw [hb]; simpa using h⟩
    · exact ih _ _ h

/-! ### Reads do not depend on EIP and CS -/

/-- A translation that answers does not depend on EIP and CS. -/
theorem translateLinear_ok_withCsEip (s : State) (c : Segment) (t a b : Word32) (h : translateLinear s a = .ok b) :
    translateLinear (s.withCsEip c t) a = .ok b := by
  have key : ∀ u : State, u.mode = s.mode → u.pg = s.pg → u.pages = s.pages → translateLinear u a = .ok b := by
    intro u h1 h2 h3
    unfold translateLinear at h ⊢
    rw [h1, h2, h3]
    split at h
    · rename_i hc
      rw [if_pos hc]
      exact h
    · rename_i hc
      rw [if_neg hc]
      split at h
      · exact h
      · exact absurd h (raise_ne_ok _ _ _ _)
  exact key _ rfl rfl rfl

theorem translateRange_ok_withCsEip (s : State) (c : Segment) (t : Word32) (n : Nat) :
    ∀ (a : Word32) (ps : List Word32), translateRange s a n = .ok ps →
      translateRange (s.withCsEip c t) a n = .ok ps := by
  induction n with
  | zero => exact fun _ _ h => h
  | succ n ih =>
    intro a ps h
    simp only [translateRange] at h ⊢
    split at h
    · cases h
    · rename_i b hb
      rw [translateLinear_ok_withCsEip s c t a b hb]
      split at h
      · cases h
      · rename_i bs hbs
        rw [ih _ _ hbs]
        exact h

theorem readPhysicals_ok_withCsEip (s : State) (c : Segment) (t : Word32) (ps : List Word32) :
    ∀ bs : List Byte, readPhysicals s ps = .ok bs → readPhysicals (s.withCsEip c t) ps = .ok bs := by
  induction ps with
  | nil => exact fun _ h => h
  | cons a ps ih =>
    intro bs h
    simp only [readPhysicals] at h ⊢
    split at h
    · cases h
    · rename_i b hb
      rw [(readPhysical_eq_ok (s.withCsEip c t) a b).2 ((readPhysical_eq_ok s a b).1 hb)]
      split at h
      · cases h
      · rename_i bs' hbs
        rw [ih _ hbs]
        exact h

/-- A read of memory that answers does not depend on EIP and CS. -/
theorem memRead_ok_withCsEip (s : State) (c : Segment) (t : Word32) (w : Nat) (a : Word32) (n : Nat) (v : BitVec w)
    (h : memRead s w a n = .ok v) : memRead (s.withCsEip c t) w a n = .ok v := by
  obtain ⟨bs, h1, h2⟩ := (memRead_eq_ok _ _ _ _ _).1 h
  obtain ⟨ps, h3, h4⟩ := (readLinear_eq_ok _ _ _ _).1 h1
  exact (memRead_eq_ok _ _ _ _ _).2 ⟨bs, (readLinear_eq_ok _ _ _ _).2
    ⟨ps, translateRange_ok_withCsEip s c t n a ps h3, readPhysicals_ok_withCsEip s c t ps bs h4⟩, h2⟩

/-! ### Jumps -/

/-- A near jump that completes writes EIP only, and in Protected mode its target is within the limit. -/
theorem jumpNear_eq_ok (t : Word32) (s u : State) (h : jumpNear t s = .ok u) :
    u = s.withEip t ∧ (s.mode = .prot → t ≤ s.cs.limit) := by
  unfold jumpNear at h
  split_ifs at h with hc
  · cases h
  · refine ⟨by simpa using h.symm, fun hm => ?_⟩
    simpa [hm] using hc

/-- A near jump that does not complete is `#GP(0)` of a target beyond the limit in Protected mode. -/
theorem jumpNear_eq_error (t : Word32) (s : State) (e : Stop) (h : jumpNear t s = .error e) :
    s.mode = .prot ∧ s.cs.limit < t ∧ e = .fault (.exception .gp (some 0) s.eip) := by
  unfold jumpNear at h
  split_ifs at h with hc
  exact ⟨hc.1, hc.2, by simpa [raise] using h.symm⟩

/-- A relative jump that completes writes EIP only: the masked target when taken, `next` when not. -/
theorem jumpRelative_eq_ok (taken : Bool) (w : Size) (len : Nat) (disp : Word32) (s u : State)
    (h : jumpRelative taken w len disp s = .ok u) :
    (taken = true ∧ u = s.withEip (maskTarget w (s.nextEip len + disp))) ∨
      (taken = false ∧ u = s.withEip (s.nextEip len)) := by
  unfold jumpRelative at h
  split at h
  · rename_i ht
    exact .inl ⟨ht, (jumpNear_eq_ok _ _ _ h).1⟩
  · rename_i ht
    exact .inr ⟨by simpa using ht, by simpa using h.symm⟩

/-- A relative jump that does not complete was taken, and is `#GP(0)` in Protected mode. -/
theorem jumpRelative_eq_error (taken : Bool) (w : Size) (len : Nat) (disp : Word32) (s : State) (e : Stop)
    (h : jumpRelative taken w len disp s = .error e) :
    taken = true ∧ s.mode = .prot ∧ s.cs.limit < maskTarget w (s.nextEip len + disp) ∧
      e = .fault (.exception .gp (some 0) s.eip) := by
  unfold jumpRelative at h
  split at h
  · rename_i ht
    exact ⟨ht, jumpNear_eq_error _ _ _ h⟩
  · cases h

/-- A masked target is below `2^16` with `OperandSize = 16` and unchanged with 32. -/
theorem maskTarget_w16_lt (t : Word32) : (maskTarget .w16 t).toNat < 2 ^ 16 := by
  simp only [maskTarget, BitVec.toNat_and]
  exact lt_of_le_of_lt Nat.and_le_right (by decide)

@[simp] theorem maskTarget_w32 (t : Word32) : maskTarget .w32 t = t := rfl

end Sys2Proof.Machine
end

