-- ==== Sys2Proof/Laws/Far.lean ====
section
/-! SUPPORT. What a far jump can do: one inversion lemma per block of `42_jmp_far.md`, and one for the whole. -/

namespace Sys2Proof.Machine

theorem raiseSel_ne_ok {α : Type} (k : ExceptionKind) (x : Word16) (s : State) (v : α) :
    (raiseSel k x s : Res α) ≠ .ok v := by simp [raiseSel, raise]

/-- Entering a segment loads CS and EIP together, within the new limit (R198). -/
theorem enterSegment_eq_ok (sel : Word16) (d : BitVec 64) (off : Word32) (s t : State)
    (h : enterSegment sel d off s = .ok t) :
    off ≤ descLimit d ∧ t = s.withCsEip (loadedCs s.cpl sel d) off := by
  unfold enterSegment at h
  split_ifs at h with hc
  · cases h
  · exact ⟨by simpa using hc, by simpa using h.symm⟩

theorem farConforming_eq_ok (sel : Word16) (off : Word32) (d : BitVec 64) (s t : State)
    (h : farConforming sel off d s = .ok t) :
    descDpl d ≤ s.cpl ∧ descPresent d = true ∧ enterSegment sel d off s = .ok t := by
  unfold farConforming at h
  split_ifs at h with h1 h2
  · exact absurd h (raiseSel_ne_ok _ _ _ _)
  · exact ⟨h1, by simpa using h2, h⟩
  · exact absurd h (raiseSel_ne_ok _ _ _ _)

theorem farNonconforming_eq_ok (sel : Word16) (off : Word32) (d : BitVec 64) (s t : State)
    (h : farNonconforming sel off d s = .ok t) :
    selRpl sel ≤ s.cpl ∧ descDpl d = s.cpl ∧ descPresent d = true ∧ enterSegment sel d off s = .ok t := by
  unfold farNonconforming at h
  split_ifs at h with h1 h2 h3
  · exact absurd h (raiseSel_ne_ok _ _ _ _)
  · exact absurd h (raiseSel_ne_ok _ _ _ _)
  · exact ⟨h1, by simpa using h2, by simpa using h3, h⟩
  · exact absurd h (raiseSel_ne_ok _ _ _ _)

theorem farGateSegment_eq_ok (w : Size) (gate c : BitVec 64) (s t : State)
    (h : farGateSegment w gate c s = .ok t) :
    (descKind c = .conformingCode ∨ descKind c = .nonconformingCode) ∧ descPresent c = true ∧
      gateSize (descKind gate) = some w ∧
      enterSegment (gateSelector gate) c (gateTarget w gate) s = .ok t := by
  unfold farGateSegment at h
  dsimp only at h
  split_ifs at h with h1 h2 h3 h4 h5
  all_goals first
    | exact absurd h (raiseSel_ne_ok _ _ _ _)
    | exact ⟨by tauto, by simpa using h4, by simpa using h5, h⟩

/-- A call gate that completes went through a code segment named by the gate (R191, R192). -/
theorem farCallGate_eq_ok (w : Size) (sel : Word16) (gate : BitVec 64) (s t : State)
    (h : farCallGate w sel gate s = .ok t) :
    isNull (gateSelector gate) = false ∧ inTable s (gateSelector gate) = true ∧
      ∃ c, readDescriptor s (gateSelector gate) = .ok c ∧ farGateSegment w gate c s = .ok t := by
  unfold farCallGate at h
  dsimp only at h
  split_ifs at h with h1 h2 h3 h4 h5
  all_goals first
    | exact absurd h (raiseSel_ne_ok _ _ _ _)
    | exact absurd h (raise_ne_ok _ _ _ _)
    | skip
  split at h
  · cases h
  · rename_i c hc
    exact ⟨by simpa using h4, by simpa using h5, c, hc, h⟩

/-- A task switch never completes (R197). -/
theorem farTss_ne_ok (sel : Word16) (d : BitVec 64) (s t : State) : farTss sel d s ≠ .ok t := by
  unfold farTss switchTasks
  split_ifs <;> simp [raiseSel, raise]

/-- A task gate never completes (R197). -/
theorem farTaskGate_ne_ok (sel : Word16) (g : BitVec 64) (s t : State) : farTaskGate sel g s ≠ .ok t := by
  unfold farTaskGate switchTasks
  dsimp only
  split_ifs <;> first | (simp [raiseSel, raise]; done) | skip
  split
  · simp
  · split_ifs <;> simp [raiseSel, raise]

/-- Everything a far jump that completes can have done: the load of Real and V86 mode, or, in Protected mode, entering a
present code segment whose descriptor its selector names. -/
theorem farJump_eq_ok (w : Size) (sel : Word16) (off : Word32) (s t : State) (h : farJump w sel off s = .ok t) :
    (s.mode ≠ .prot ∧ t = farReal sel off s) ∨
      (s.mode = .prot ∧ ∃ x d o, isNull x = false ∧ inTable s x = true ∧ readDescriptor s x = .ok d ∧
        (descKind d = .conformingCode ∨ descKind d = .nonconformingCode) ∧ descPresent d = true ∧
        o ≤ descLimit d ∧ t = s.withCsEip (loadedCs s.cpl x d) o) := by
  unfold farJump at h
  split_ifs at h with hm
  · refine .inr ⟨hm, ?_⟩
    unfold farProtected at h
    split_ifs at h with h1 h2
    · exact absurd h (raise_ne_ok _ _ _ _)
    · exact absurd h (raiseSel_ne_ok _ _ _ _)
    · split at h
      · cases h
      · rename_i d hd
        unfold farDispatch at h
        split at h
        · rename_i hk
          obtain ⟨-, hp, he⟩ := farConforming_eq_ok _ _ _ _ _ h
          obtain ⟨hl, rfl⟩ := enterSegment_eq_ok _ _ _ _ _ he
          exact ⟨sel, d, off, by simpa using h1, by simpa using h2, hd, .inl hk, hp, hl, rfl⟩
        · rename_i hk
          obtain ⟨-, -, hp, he⟩ := farNonconforming_eq_ok _ _ _ _ _ h
          obtain ⟨hl, rfl⟩ := enterSegment_eq_ok _ _ _ _ _ he
          exact ⟨sel, d, off, by simpa using h1, by simpa using h2, hd, .inr hk, hp, hl, rfl⟩
        · obtain ⟨hn, hi, c, hc, hg⟩ := farCallGate_eq_ok _ _ _ _ _ h
          obtain ⟨hk, hp, -, he⟩ := farGateSegment_eq_ok _ _ _ _ _ hg
          obtain ⟨hl, rfl⟩ := enterSegment_eq_ok _ _ _ _ _ he
          exact ⟨_, c, _, hn, hi, hc, hk, hp, hl, rfl⟩
        · obtain ⟨hn, hi, c, hc, hg⟩ := farCallGate_eq_ok _ _ _ _ _ h
          obtain ⟨hk, hp, -, he⟩ := farGateSegment_eq_ok _ _ _ _ _ hg
          obtain ⟨hl, rfl⟩ := enterSegment_eq_ok _ _ _ _ _ he
          exact ⟨_, c, _, hn, hi, hc, hk, hp, hl, rfl⟩
        all_goals first
          | exact absurd h (farTaskGate_ne_ok _ _ _ _)
          | exact absurd h (farTss_ne_ok _ _ _ _)
          | exact absurd h (raiseSel_ne_ok _ _ _ _)
  · exact .inl ⟨hm, by simpa using h.symm⟩

/-! ### How a far jump stops -/

/-- How a far jump with its pointer in hand stops: `#GP` or `#NP` of a selector, a descriptor that cannot be read, or
one of the two refusals (R186 to R197). `#GP(0)` is the `#GP` of the null selector. -/
def FarStop (s : State) (e : Stop) : Prop :=
  (∃ x, e = .fault (.exception .gp (some (errSel x)) s.eip)) ∨
  (∃ x, e = .fault (.exception .np (some (errSel x)) s.eip)) ∨ ReadStop s e ∨
  e = .refused (.taskSwitchNotModelled s.eip) ∨ e = .refused (.callGateSizeMismatch s.eip)

theorem raiseSel_gp_stop (s : State) (x : Word16) (e : Stop) (h : (raiseSel .gp x s : Res State) = .error e) :
    FarStop s e := .inl ⟨x, by simpa [raiseSel, raise] using h.symm⟩

theorem raiseSel_np_stop (s : State) (x : Word16) (e : Stop) (h : (raiseSel .np x s : Res State) = .error e) :
    FarStop s e := .inr (.inl ⟨x, by simpa [raiseSel, raise] using h.symm⟩)

theorem raise_gp_zero_stop (s : State) (e : Stop) (h : (raise .gp (some 0) s : Res State) = .error e) :
    FarStop s e := .inl ⟨0, by simpa [raise, errSel] using h.symm⟩

theorem enterSegment_stop (x : Word16) (d : BitVec 64) (off : Word32) (s : State) (e : Stop)
    (h : enterSegment x d off s = .error e) : FarStop s e := by
  unfold enterSegment at h
  split_ifs at h
  exact raise_gp_zero_stop s e h

theorem farGateSegment_stop (w : Size) (gate c : BitVec 64) (s : State) (e : Stop)
    (h : farGateSegment w gate c s = .error e) : FarStop s e := by
  unfold farGateSegment at h
  dsimp only at h
  split_ifs at h
  all_goals first
    | exact raiseSel_gp_stop _ _ _ h
    | exact raiseSel_np_stop _ _ _ h
    | exact enterSegment_stop _ _ _ _ _ h
    | exact .inr (.inr (.inr (.inr (by simpa using h.symm))))

theorem farCallGate_stop (w : Size) (sel : Word16) (gate : BitVec 64) (s : State) (e : Stop)
    (h : farCallGate w sel gate s = .error e) : FarStop s e := by
  unfold farCallGate at h
  dsimp only at h
  split_ifs at h
  all_goals first
    | exact raiseSel_gp_stop _ _ _ h
    | exact raiseSel_np_stop _ _ _ h
    | exact raise_gp_zero_stop _ _ h
    | skip
  split at h
  · rename_i hr
    cases h
    exact .inr (.inr (.inl (memRead_stop _ _ _ _ _ hr)))
  · exact farGateSegment_stop _ _ _ _ _ h

theorem farTaskGate_stop (sel : Word16) (gate : BitVec 64) (s : State) (e : Stop)
    (h : farTaskGate sel gate s = .error e) : FarStop s e := by
  unfold farTaskGate at h
  dsimp only at h
  split_ifs at h
  all_goals first
    | exact raiseSel_gp_stop _ _ _ h
    | exact raiseSel_np_stop _ _ _ h
    | skip
  split at h
  · rename_i hr
    cases h
    exact .inr (.inr (.inl (memRead_stop _ _ _ _ _ hr)))
  · split_ifs at h
    · exact raiseSel_gp_stop _ _ _ h
    · exact raiseSel_np_stop _ _ _ h
    · exact .inr (.inr (.inr (.inl (by simpa [switchTasks] using h.symm))))

theorem farTss_stop (sel : Word16) (d : BitVec 64) (s : State) (e : Stop) (h : farTss sel d s = .error e) :
    FarStop s e := by
  unfold farTss at h
  split_ifs at h
  all_goals first
    | exact raiseSel_gp_stop _ _ _ h
    | exact raiseSel_np_stop _ _ _ h
    | exact .inr (.inr (.inr (.inl (by simpa [switchTasks] using h.symm))))

/-- A far jump stops in Protected mode only. -/
theorem farJump_stop (w : Size) (sel : Word16) (off : Word32) (s : State) (e : Stop)
    (h : farJump w sel off s = .error e) : s.mode = .prot ∧ FarStop s e := by
  unfold farJump at h
  split_ifs at h with hm
  refine ⟨hm, ?_⟩
  unfold farProtected at h
  split_ifs at h
  · exact raise_gp_zero_stop _ _ h
  · exact raiseSel_gp_stop _ _ _ h
  · split at h
    · rename_i hr
      cases h
      exact .inr (.inr (.inl (memRead_stop _ _ _ _ _ hr)))
    · unfold farDispatch farConforming farNonconforming at h
      split at h
      iterate 2
        · split_ifs at h
          all_goals first
            | exact raiseSel_gp_stop _ _ _ h
            | exact raiseSel_np_stop _ _ _ h
            | exact enterSegment_stop _ _ _ _ _ h
      all_goals first
        | exact farCallGate_stop _ _ _ _ _ h
        | exact farTaskGate_stop _ _ _ _ h
        | exact farTss_stop _ _ _ _ h
        | exact raiseSel_gp_stop _ _ _ h

/-- The RPL field of a loaded CS is CPL (R31, R69). -/
theorem selRpl_loadedCs (cpl : BitVec 2) (x : Word16) (d : BitVec 64) :
    selRpl (loadedCs cpl x d).selector = cpl := by
  apply BitVec.eq_of_getLsbD_eq
  intro i hi
  have : i = 0 ∨ i = 1 := by omega
  rcases this with rfl | rfl <;> simp [selRpl, loadedCs]

end Sys2Proof.Machine
end

