-- ==== Sys2Proof/Laws/Memory.lean ====
section
/-! SUPPORT. The laws of memory: a read after a write, the canonical form kept by every memory operation and held at
reset, and what placing bytes leaves unchanged. -/

namespace Sys2Proof.Machine

theorem read_write_same (m : Memory) (a : Nat) (v : Byte) : Memory.read (Memory.write m a v) a = some v := by
  induction m with
  | nil => simp [Memory.write, Memory.read]
  | cons c t ih =>
    obtain ⟨k, b⟩ := c
    simp only [Memory.write]
    split_ifs with h1 h2
    · simp [Memory.read]
    · simp [Memory.read]
    · simp [Memory.read, show k ≠ a from fun h => h2 h.symm, ih]

theorem read_write_other (m : Memory) (a b : Nat) (v : Byte) (h : b ≠ a) :
    Memory.read (Memory.write m a v) b = Memory.read m b := by
  induction m with
  | nil => simp [Memory.write, Memory.read, Ne.symm h]
  | cons c t ih =>
    obtain ⟨k, x⟩ := c
    simp only [Memory.write]
    split_ifs with h1 h2
    · simp [Memory.read, Ne.symm h]
    · subst h2
      simp [Memory.read, Ne.symm h]
    · by_cases hk : k = b <;> simp [Memory.read, hk, ih]

/-- Every cell after a write is the new one or an old one. -/
theorem mem_write (m : Memory) (a : Nat) (v : Byte) (c : Host.Cell) (h : c ∈ Memory.write m a v) :
    c = (a, v) ∨ c ∈ m := by
  induction m with
  | nil => simpa [Memory.write] using h
  | cons d t ih =>
    obtain ⟨k, b⟩ := d
    simp only [Memory.write] at h
    split_ifs at h with h1 h2
    · simpa using h
    · rcases List.mem_cons.1 h with h | h
      · exact .inl h
      · exact .inr (List.mem_cons_of_mem _ h)
    · rcases List.mem_cons.1 h with h | h
      · exact .inr (h ▸ List.mem_cons_self)
      · exact (ih h).imp id (List.mem_cons_of_mem _)

/-- A write keeps the canonical form (R50). -/
theorem write_wf (m : Memory) (a : Nat) (v : Byte) (ha : a < 2 ^ 32) (h : Memory.wf m) :
    Memory.wf (Memory.write m a v) := by
  refine ⟨?_, fun c hc => ?_⟩
  · obtain ⟨hp, -⟩ := h
    induction m with
    | nil => simp [Memory.write]
    | cons d t ih =>
      obtain ⟨k, b⟩ := d
      rw [List.pairwise_cons] at hp
      simp only [Memory.write]
      split_ifs with h1 h2
      · refine List.pairwise_cons.2 ⟨fun c hc => ?_, List.pairwise_cons.2 hp⟩
        rcases List.mem_cons.1 hc with rfl | hc
        · exact h1
        · exact lt_trans h1 (hp.1 c hc)
      · subst h2
        exact List.pairwise_cons.2 hp
      · refine List.pairwise_cons.2 ⟨fun c hc => ?_, ih hp.2⟩
        rcases mem_write t a v c hc with rfl | hc
        · show k < a
          omega
        · exact hp.1 c hc
  · rcases mem_write m a v c hc with rfl | hc
    · exact ha
    · exact h.2 c hc

theorem reset_memory_wf : Memory.wf State.reset.mem := by decide

theorem reset_pages_wf : PageMap.wf State.reset.pages := by decide

/-- Translation does not look at memory's bytes. -/
theorem translateLinear_withMem (s : State) (m : Memory) (a : Word32) :
    translateLinear { s with mem := m } a = translateLinear s a := rfl

/-- Placing bytes changes memory only. -/
theorem placeBytes_only_mem (bs : List Byte) (s : State) (k : Nat) :
    placeBytes s k bs = { s with mem := (placeBytes s k bs).mem } := by
  induction bs generalizing s k with
  | nil => rfl
  | cons b bs ih =>
    simp only [placeBytes]
    cases h : translateLinear s (lin s.cs (fetchOffset s k)) with
    | error e => exact ih s (k + 1)
    | ok a => exact ih { s with mem := Memory.write s.mem a.toNat b } (k + 1)

/-- Placing bytes keeps the canonical form of memory. -/
theorem placeBytes_wf (bs : List Byte) (s : State) (k : Nat) (h : Memory.wf s.mem) :
    Memory.wf (placeBytes s k bs).mem := by
  induction bs generalizing s k with
  | nil => exact h
  | cons b bs ih =>
    simp only [placeBytes]
    cases ht : translateLinear s (lin s.cs (fetchOffset s k)) with
    | error e => exact ih s (k + 1) h
    | ok a => exact ih _ (k + 1) (write_wf s.mem a.toNat b a.isLt h)

theorem withFetchWord_only_mem (s : State) (nbits w : Nat) :
    s.withFetchWord nbits w = { s with mem := (s.withFetchWord nbits w).mem } :=
  placeBytes_only_mem _ s 0

end Sys2Proof.Machine
end

