-- ==== Sys2Proof/Laws/PerInstr.lean ====
section
/-! SUPPORT. The per-instruction family EncodeLength: the bytes of an instruction are as many as its length says
(`30_encoding.md` R88). -/

namespace Sys2Proof.Laws

/-- The encoder writes `L` bytes (R88). -/
def EncodeLength.Statement (i : Instr) : Prop := (encode i).length = i.length

theorem EncodeLength.joRel8 (p : Prefixes) (d8 : Byte) : EncodeLength.Statement (.joRel8 p d8) :=
  encode_length_parts _
theorem EncodeLength.jnoRel8 (p : Prefixes) (d8 : Byte) : EncodeLength.Statement (.jnoRel8 p d8) :=
  encode_length_parts _
theorem EncodeLength.jbRel8 (p : Prefixes) (d8 : Byte) : EncodeLength.Statement (.jbRel8 p d8) :=
  encode_length_parts _
theorem EncodeLength.jcRel8 (p : Prefixes) (d8 : Byte) : EncodeLength.Statement (.jcRel8 p d8) :=
  encode_length_parts _
theorem EncodeLength.jnaeRel8 (p : Prefixes) (d8 : Byte) : EncodeLength.Statement (.jnaeRel8 p d8) :=
  encode_length_parts _
theorem EncodeLength.jaeRel8 (p : Prefixes) (d8 : Byte) : EncodeLength.Statement (.jaeRel8 p d8) :=
  encode_length_parts _
theorem EncodeLength.jnbRel8 (p : Prefixes) (d8 : Byte) : EncodeLength.Statement (.jnbRel8 p d8) :=
  encode_length_parts _
theorem EncodeLength.jncRel8 (p : Prefixes) (d8 : Byte) : EncodeLength.Statement (.jncRel8 p d8) :=
  encode_length_parts _
theorem EncodeLength.jeRel8 (p : Prefixes) (d8 : Byte) : EncodeLength.Statement (.jeRel8 p d8) :=
  encode_length_parts _
theorem EncodeLength.jzRel8 (p : Prefixes) (d8 : Byte) : EncodeLength.Statement (.jzRel8 p d8) :=
  encode_length_parts _
theorem EncodeLength.jneRel8 (p : Prefixes) (d8 : Byte) : EncodeLength.Statement (.jneRel8 p d8) :=
  encode_length_parts _
theorem EncodeLength.jnzRel8 (p : Prefixes) (d8 : Byte) : EncodeLength.Statement (.jnzRel8 p d8) :=
  encode_length_parts _
theorem EncodeLength.jbeRel8 (p : Prefixes) (d8 : Byte) : EncodeLength.Statement (.jbeRel8 p d8) :=
  encode_length_parts _
theorem EncodeLength.jnaRel8 (p : Prefixes) (d8 : Byte) : EncodeLength.Statement (.jnaRel8 p d8) :=
  encode_length_parts _
theorem EncodeLength.jaRel8 (p : Prefixes) (d8 : Byte) : EncodeLength.Statement (.jaRel8 p d8) :=
  encode_length_parts _
theorem EncodeLength.jnbeRel8 (p : Prefixes) (d8 : Byte) : EncodeLength.Statement (.jnbeRel8 p d8) :=
  encode_length_parts _
theorem EncodeLength.jsRel8 (p : Prefixes) (d8 : Byte) : EncodeLength.Statement (.jsRel8 p d8) :=
  encode_length_parts _
theorem EncodeLength.jnsRel8 (p : Prefixes) (d8 : Byte) : EncodeLength.Statement (.jnsRel8 p d8) :=
  encode_length_parts _
theorem EncodeLength.jpRel8 (p : Prefixes) (d8 : Byte) : EncodeLength.Statement (.jpRel8 p d8) :=
  encode_length_parts _
theorem EncodeLength.jpeRel8 (p : Prefixes) (d8 : Byte) : EncodeLength.Statement (.jpeRel8 p d8) :=
  encode_length_parts _
theorem EncodeLength.jnpRel8 (p : Prefixes) (d8 : Byte) : EncodeLength.Statement (.jnpRel8 p d8) :=
  encode_length_parts _
theorem EncodeLength.jpoRel8 (p : Prefixes) (d8 : Byte) : EncodeLength.Statement (.jpoRel8 p d8) :=
  encode_length_parts _
theorem EncodeLength.jlRel8 (p : Prefixes) (d8 : Byte) : EncodeLength.Statement (.jlRel8 p d8) :=
  encode_length_parts _
theorem EncodeLength.jngeRel8 (p : Prefixes) (d8 : Byte) : EncodeLength.Statement (.jngeRel8 p d8) :=
  encode_length_parts _
theorem EncodeLength.jgeRel8 (p : Prefixes) (d8 : Byte) : EncodeLength.Statement (.jgeRel8 p d8) :=
  encode_length_parts _
theorem EncodeLength.jnlRel8 (p : Prefixes) (d8 : Byte) : EncodeLength.Statement (.jnlRel8 p d8) :=
  encode_length_parts _
theorem EncodeLength.jleRel8 (p : Prefixes) (d8 : Byte) : EncodeLength.Statement (.jleRel8 p d8) :=
  encode_length_parts _
theorem EncodeLength.jngRel8 (p : Prefixes) (d8 : Byte) : EncodeLength.Statement (.jngRel8 p d8) :=
  encode_length_parts _
theorem EncodeLength.jgRel8 (p : Prefixes) (d8 : Byte) : EncodeLength.Statement (.jgRel8 p d8) :=
  encode_length_parts _
theorem EncodeLength.jnleRel8 (p : Prefixes) (d8 : Byte) : EncodeLength.Statement (.jnleRel8 p d8) :=
  encode_length_parts _
theorem EncodeLength.jcxzRel8 (p : Prefixes) (d8 : Byte) : EncodeLength.Statement (.jcxzRel8 p d8) :=
  encode_length_parts _
theorem EncodeLength.jecxzRel8 (p : Prefixes) (d8 : Byte) : EncodeLength.Statement (.jecxzRel8 p d8) :=
  encode_length_parts _
theorem EncodeLength.joRel16 (p : Prefixes) (rel : Word16) : EncodeLength.Statement (.joRel16 p rel) :=
  encode_length_parts _
theorem EncodeLength.joRel32 (p : Prefixes) (rel : Word32) : EncodeLength.Statement (.joRel32 p rel) :=
  encode_length_parts _
theorem EncodeLength.jnoRel16 (p : Prefixes) (rel : Word16) : EncodeLength.Statement (.jnoRel16 p rel) :=
  encode_length_parts _
theorem EncodeLength.jnoRel32 (p : Prefixes) (rel : Word32) : EncodeLength.Statement (.jnoRel32 p rel) :=
  encode_length_parts _
theorem EncodeLength.jbRel16 (p : Prefixes) (rel : Word16) : EncodeLength.Statement (.jbRel16 p rel) :=
  encode_length_parts _
theorem EncodeLength.jbRel32 (p : Prefixes) (rel : Word32) : EncodeLength.Statement (.jbRel32 p rel) :=
  encode_length_parts _
theorem EncodeLength.jcRel16 (p : Prefixes) (rel : Word16) : EncodeLength.Statement (.jcRel16 p rel) :=
  encode_length_parts _
theorem EncodeLength.jcRel32 (p : Prefixes) (rel : Word32) : EncodeLength.Statement (.jcRel32 p rel) :=
  encode_length_parts _
theorem EncodeLength.jnaeRel16 (p : Prefixes) (rel : Word16) : EncodeLength.Statement (.jnaeRel16 p rel) :=
  encode_length_parts _
theorem EncodeLength.jnaeRel32 (p : Prefixes) (rel : Word32) : EncodeLength.Statement (.jnaeRel32 p rel) :=
  encode_length_parts _
theorem EncodeLength.jaeRel16 (p : Prefixes) (rel : Word16) : EncodeLength.Statement (.jaeRel16 p rel) :=
  encode_length_parts _
theorem EncodeLength.jaeRel32 (p : Prefixes) (rel : Word32) : EncodeLength.Statement (.jaeRel32 p rel) :=
  encode_length_parts _
theorem EncodeLength.jnbRel16 (p : Prefixes) (rel : Word16) : EncodeLength.Statement (.jnbRel16 p rel) :=
  encode_length_parts _
theorem EncodeLength.jnbRel32 (p : Prefixes) (rel : Word32) : EncodeLength.Statement (.jnbRel32 p rel) :=
  encode_length_parts _
theorem EncodeLength.jncRel16 (p : Prefixes) (rel : Word16) : EncodeLength.Statement (.jncRel16 p rel) :=
  encode_length_parts _
theorem EncodeLength.jncRel32 (p : Prefixes) (rel : Word32) : EncodeLength.Statement (.jncRel32 p rel) :=
  encode_length_parts _
theorem EncodeLength.jeRel16 (p : Prefixes) (rel : Word16) : EncodeLength.Statement (.jeRel16 p rel) :=
  encode_length_parts _
theorem EncodeLength.jeRel32 (p : Prefixes) (rel : Word32) : EncodeLength.Statement (.jeRel32 p rel) :=
  encode_length_parts _
theorem EncodeLength.jzRel16 (p : Prefixes) (rel : Word16) : EncodeLength.Statement (.jzRel16 p rel) :=
  encode_length_parts _
theorem EncodeLength.jzRel32 (p : Prefixes) (rel : Word32) : EncodeLength.Statement (.jzRel32 p rel) :=
  encode_length_parts _
theorem EncodeLength.jneRel16 (p : Prefixes) (rel : Word16) : EncodeLength.Statement (.jneRel16 p rel) :=
  encode_length_parts _
theorem EncodeLength.jneRel32 (p : Prefixes) (rel : Word32) : EncodeLength.Statement (.jneRel32 p rel) :=
  encode_length_parts _
theorem EncodeLength.jnzRel16 (p : Prefixes) (rel : Word16) : EncodeLength.Statement (.jnzRel16 p rel) :=
  encode_length_parts _
theorem EncodeLength.jnzRel32 (p : Prefixes) (rel : Word32) : EncodeLength.Statement (.jnzRel32 p rel) :=
  encode_length_parts _
theorem EncodeLength.jbeRel16 (p : Prefixes) (rel : Word16) : EncodeLength.Statement (.jbeRel16 p rel) :=
  encode_length_parts _
theorem EncodeLength.jbeRel32 (p : Prefixes) (rel : Word32) : EncodeLength.Statement (.jbeRel32 p rel) :=
  encode_length_parts _
theorem EncodeLength.jnaRel16 (p : Prefixes) (rel : Word16) : EncodeLength.Statement (.jnaRel16 p rel) :=
  encode_length_parts _
theorem EncodeLength.jnaRel32 (p : Prefixes) (rel : Word32) : EncodeLength.Statement (.jnaRel32 p rel) :=
  encode_length_parts _
theorem EncodeLength.jaRel16 (p : Prefixes) (rel : Word16) : EncodeLength.Statement (.jaRel16 p rel) :=
  encode_length_parts _
theorem EncodeLength.jaRel32 (p : Prefixes) (rel : Word32) : EncodeLength.Statement (.jaRel32 p rel) :=
  encode_length_parts _
theorem EncodeLength.jnbeRel16 (p : Prefixes) (rel : Word16) : EncodeLength.Statement (.jnbeRel16 p rel) :=
  encode_length_parts _
theorem EncodeLength.jnbeRel32 (p : Prefixes) (rel : Word32) : EncodeLength.Statement (.jnbeRel32 p rel) :=
  encode_length_parts _
theorem EncodeLength.jsRel16 (p : Prefixes) (rel : Word16) : EncodeLength.Statement (.jsRel16 p rel) :=
  encode_length_parts _
theorem EncodeLength.jsRel32 (p : Prefixes) (rel : Word32) : EncodeLength.Statement (.jsRel32 p rel) :=
  encode_length_parts _
theorem EncodeLength.jnsRel16 (p : Prefixes) (rel : Word16) : EncodeLength.Statement (.jnsRel16 p rel) :=
  encode_length_parts _
theorem EncodeLength.jnsRel32 (p : Prefixes) (rel : Word32) : EncodeLength.Statement (.jnsRel32 p rel) :=
  encode_length_parts _
theorem EncodeLength.jpRel16 (p : Prefixes) (rel : Word16) : EncodeLength.Statement (.jpRel16 p rel) :=
  encode_length_parts _
theorem EncodeLength.jpRel32 (p : Prefixes) (rel : Word32) : EncodeLength.Statement (.jpRel32 p rel) :=
  encode_length_parts _
theorem EncodeLength.jpeRel16 (p : Prefixes) (rel : Word16) : EncodeLength.Statement (.jpeRel16 p rel) :=
  encode_length_parts _
theorem EncodeLength.jpeRel32 (p : Prefixes) (rel : Word32) : EncodeLength.Statement (.jpeRel32 p rel) :=
  encode_length_parts _
theorem EncodeLength.jnpRel16 (p : Prefixes) (rel : Word16) : EncodeLength.Statement (.jnpRel16 p rel) :=
  encode_length_parts _
theorem EncodeLength.jnpRel32 (p : Prefixes) (rel : Word32) : EncodeLength.Statement (.jnpRel32 p rel) :=
  encode_length_parts _
theorem EncodeLength.jpoRel16 (p : Prefixes) (rel : Word16) : EncodeLength.Statement (.jpoRel16 p rel) :=
  encode_length_parts _
theorem EncodeLength.jpoRel32 (p : Prefixes) (rel : Word32) : EncodeLength.Statement (.jpoRel32 p rel) :=
  encode_length_parts _
theorem EncodeLength.jlRel16 (p : Prefixes) (rel : Word16) : EncodeLength.Statement (.jlRel16 p rel) :=
  encode_length_parts _
theorem EncodeLength.jlRel32 (p : Prefixes) (rel : Word32) : EncodeLength.Statement (.jlRel32 p rel) :=
  encode_length_parts _
theorem EncodeLength.jngeRel16 (p : Prefixes) (rel : Word16) : EncodeLength.Statement (.jngeRel16 p rel) :=
  encode_length_parts _
theorem EncodeLength.jngeRel32 (p : Prefixes) (rel : Word32) : EncodeLength.Statement (.jngeRel32 p rel) :=
  encode_length_parts _
theorem EncodeLength.jgeRel16 (p : Prefixes) (rel : Word16) : EncodeLength.Statement (.jgeRel16 p rel) :=
  encode_length_parts _
theorem EncodeLength.jgeRel32 (p : Prefixes) (rel : Word32) : EncodeLength.Statement (.jgeRel32 p rel) :=
  encode_length_parts _
theorem EncodeLength.jnlRel16 (p : Prefixes) (rel : Word16) : EncodeLength.Statement (.jnlRel16 p rel) :=
  encode_length_parts _
theorem EncodeLength.jnlRel32 (p : Prefixes) (rel : Word32) : EncodeLength.Statement (.jnlRel32 p rel) :=
  encode_length_parts _
theorem EncodeLength.jleRel16 (p : Prefixes) (rel : Word16) : EncodeLength.Statement (.jleRel16 p rel) :=
  encode_length_parts _
theorem EncodeLength.jleRel32 (p : Prefixes) (rel : Word32) : EncodeLength.Statement (.jleRel32 p rel) :=
  encode_length_parts _
theorem EncodeLength.jngRel16 (p : Prefixes) (rel : Word16) : EncodeLength.Statement (.jngRel16 p rel) :=
  encode_length_parts _
theorem EncodeLength.jngRel32 (p : Prefixes) (rel : Word32) : EncodeLength.Statement (.jngRel32 p rel) :=
  encode_length_parts _
theorem EncodeLength.jgRel16 (p : Prefixes) (rel : Word16) : EncodeLength.Statement (.jgRel16 p rel) :=
  encode_length_parts _
theorem EncodeLength.jgRel32 (p : Prefixes) (rel : Word32) : EncodeLength.Statement (.jgRel32 p rel) :=
  encode_length_parts _
theorem EncodeLength.jnleRel16 (p : Prefixes) (rel : Word16) : EncodeLength.Statement (.jnleRel16 p rel) :=
  encode_length_parts _
theorem EncodeLength.jnleRel32 (p : Prefixes) (rel : Word32) : EncodeLength.Statement (.jnleRel32 p rel) :=
  encode_length_parts _
theorem EncodeLength.jmpRel8 (p : Prefixes) (d8 : Byte) : EncodeLength.Statement (.jmpRel8 p d8) :=
  encode_length_parts _
theorem EncodeLength.jmpRel16 (p : Prefixes) (rel : Word16) : EncodeLength.Statement (.jmpRel16 p rel) :=
  encode_length_parts _
theorem EncodeLength.jmpRel32 (p : Prefixes) (rel : Word32) : EncodeLength.Statement (.jmpRel32 p rel) :=
  encode_length_parts _
theorem EncodeLength.jmpRm16 (p : Prefixes) (rm : RegMem) : EncodeLength.Statement (.jmpRm16 p rm) :=
  encode_length_parts _
theorem EncodeLength.jmpRm32 (p : Prefixes) (rm : RegMem) : EncodeLength.Statement (.jmpRm32 p rm) :=
  encode_length_parts _
theorem EncodeLength.jmpPtr16x16 (p : Prefixes) (off : Word16) (sel : Word16) : EncodeLength.Statement (.jmpPtr16x16 p off sel) :=
  encode_length_parts _
theorem EncodeLength.jmpPtr16x32 (p : Prefixes) (off : Word32) (sel : Word16) : EncodeLength.Statement (.jmpPtr16x32 p off sel) :=
  encode_length_parts _
theorem EncodeLength.jmpM16x16 (p : Prefixes) (rm : RegMem) : EncodeLength.Statement (.jmpM16x16 p rm) :=
  encode_length_parts _
theorem EncodeLength.jmpM16x32 (p : Prefixes) (rm : RegMem) : EncodeLength.Statement (.jmpM16x32 p rm) :=
  encode_length_parts _

end Sys2Proof.Laws
end

