-- ==== Sys2Proof/Tests/Slice0.lean ====
section
/-! SUPPORT. Tests of the model against the spec: the refusals of WellFormed, the word of every row, the worked examples
of the instruction rules and rows of `95_test_vectors.md`, and for every obligation with hypotheses a witness that they
can be met. Expected values are the spec's. -/

namespace Sys2Proof.Tests

open Sys2Proof.Machine Sys2Proof.Claims Sys2Proof.Safety

set_option Elab.async false -- one thread: every evaluation below is short, and many at once exhaust the thread stacks

/-! ### Builders of small states -/

/-- Cells of consecutive bytes from an address on. -/
def cells : Nat → List Byte → Memory
  | _, [] => []
  | a, b :: bs => (a, b) :: cells (a + 1) bs

/-- The bits of CF, PF, ZF, SF and OF in EFLAGS, with bit 1 set (R27). -/
def flagBits (cf pf zf sf of : Nat) : Word32 := BitVec.ofNat 32 (cf + 2 + pf * 4 + zf * 64 + sf * 128 + of * 2048)

/-- Real mode, CS base 0 and limit FFFFH, the bytes at `pc`. -/
def real (pc : Nat) (code : List Byte) : State :=
  { State.reset with
    eip := BitVec.ofNat 32 pc
    cs := { State.reset.cs with selector := 0, base := 0 }
    mem := cells pc code }

/-- A flat segment. -/
def flat (sel : Word16) (ar : Byte) : Segment :=
  { selector := sel, base := 0, limit := 0xFFFFFFFF, ar := ar, d := true, unusable := false }

/-- Flat 32-bit Protected mode, the bytes at `pc`, no table. -/
def prot (pc : Nat) (code : List Byte) : State :=
  { State.reset with
    eip := BitVec.ofNat 32 pc
    cs := flat 8 0x9A
    ds := flat 0x10 0x92
    ss := flat 0x10 0x92
    cr0 := 1
    mem := cells pc code }

/-- V86 mode, CS base 0 and limit FFFFH, the bytes at `pc`. -/
def v86 (pc : Nat) (code : List Byte) : State :=
  { real pc code with eflags := 0x20002, cr0 := 1, cpl := 3 }

/-- The descriptor table of `95_test_vectors.md` section 4.2. -/
def gdt : List Byte :=
  [0x00, 0x00, 0x00, 0x00, 0x00, 0x00, 0x00, 0x00] ++
  [0xFF, 0xFF, 0x00, 0x00, 0x00, 0x9A, 0xCF, 0x00] ++
  [0xFF, 0xFF, 0x00, 0x00, 0x00, 0x92, 0xCF, 0x00] ++
  [0xFF, 0xFF, 0x00, 0x00, 0x00, 0x9E, 0xCF, 0x00] ++
  [0x00, 0x50, 0x08, 0x00, 0x00, 0xEC, 0x00, 0x00] ++
  [0x67, 0x00, 0x00, 0x30, 0x00, 0x89, 0x00, 0x00] ++
  [0xFF, 0xFF, 0x00, 0x00, 0x02, 0xFA, 0x00, 0x00] ++
  [0xFF, 0xFF, 0x00, 0x00, 0x00, 0x1A, 0xCF, 0x00] ++
  [0x00, 0x00, 0x28, 0x00, 0x00, 0x85, 0x00, 0x00] ++
  [0x67, 0x00, 0x00, 0x40, 0x00, 0x8B, 0x00, 0x00] ++
  [0x34, 0x12, 0x08, 0x00, 0x00, 0x84, 0x00, 0x00] ++
  [0x00, 0x00, 0x00, 0x00, 0x00, 0x8C, 0x00, 0x00] ++
  [0x00, 0x00, 0x10, 0x00, 0x00, 0x8C, 0x00, 0x00] ++
  [0x00, 0x00, 0x2C, 0x00, 0x00, 0x85, 0x00, 0x00] ++
  [0x00, 0x00, 0x48, 0x00, 0x00, 0x85, 0x00, 0x00] ++
  [0x45, 0x23, 0x30, 0x00, 0x00, 0xEC, 0x01, 0x00] ++
  [0xFF, 0xFF, 0x00, 0x00, 0x00, 0xFE, 0xCF, 0x00]

/-- Protected mode at 00401000H with that table, at privilege 0 or 3. -/
def table (cpl : BitVec 2) (code : List Byte) : State :=
  { prot 0x401000 code with
    cpl := cpl
    cs := if cpl = 3 then flat 0x1B 0x9E else flat 8 0x9A
    gdtr := { base := 0x1000, limit := 0x87 }
    mem := cells 0x1000 gdt ++ cells 0x401000 code }

/-- EIP of a next state. -/
def eipOf : Out → Option Word32
  | .next s => some s.eip
  | .fault _ => none
  | .refused _ => none

/-- CS of a next state. -/
def csOf : Out → Option Segment
  | .next s => some s.cs
  | .fault _ => none
  | .refused _ => none

/-- The fault of an outcome. -/
def faultOf : Out → Option Fault
  | .next _ => none
  | .fault f => some f
  | .refused _ => none

/-- The refusal of an outcome. -/
def refusalOf : Out → Option Refusal
  | .next _ => none
  | .fault _ => none
  | .refused q => some q

/-- The value of an operation that answers. -/
def valueOf {α : Type} : Res α → Option α
  | .ok v => some v
  | .error _ => none

theorem ok_of_valueOf {α : Type} {r : Res α} {v : α} (h : valueOf r = some v) : r = .ok v := by
  cases r with
  | ok u => exact congrArg _ (Option.some.inj h)
  | error e => cases h

theorem next_of_eipOf {o : Out} {t : Word32} (h : eipOf o = some t) : ∃ s, o = .next s := by
  cases o with
  | next s => exact ⟨s, rfl⟩
  | fault f => cases h
  | refused q => cases h

/-- No prefix byte. -/
abbrev np : Prefixes := Prefixes.empty
/-- Only 66. -/
abbrev p66 : Prefixes := ⟨true, false, none⟩
/-- Only 67. -/
abbrev p67 : Prefixes := ⟨false, true, none⟩

/-! ### WellFormed refuses (R81, R89 to R96) -/

theorem test_wf_override_without_memory_operand :
    wellFormed .w16 (.joRel8 ⟨false, false, some .ds⟩ 0) = false ∧
    wellFormed .w16 (.jcxzRel8 ⟨false, false, some .ds⟩ 0) = false ∧
    wellFormed .w16 (.joRel16 ⟨false, false, some .ds⟩ 0) = false ∧
    wellFormed .w16 (.jmpRm16 ⟨false, false, some .ds⟩ (.reg .eax)) = false := by decide

theorem test_wf_operand_size :
    wellFormed .w32 (.jleRel16 np 0) = false ∧ wellFormed .w16 (.jleRel32 np 0) = false ∧
    wellFormed .w32 (.jmpRel16 np 0) = false ∧ wellFormed .w16 (.jmpPtr16x32 np 0 0) = false ∧
    wellFormed .w32 (.jmpPtr16x16 np 0 0) = false ∧ wellFormed .w32 (.jmpRm16 np (.reg .eax)) = false ∧
    wellFormed .w16 (.jmpM16x32 np (.reg .eax)) = false := by decide

theorem test_wf_count_register :
    wellFormed .w32 (.jcxzRel8 np 0) = false ∧ wellFormed .w16 (.jecxzRel8 np 0) = false := by decide

theorem test_wf_address_size :
    wellFormed .w16 (.jmpRm16 np (.mem32 (.direct 0))) = false ∧
    wellFormed .w32 (.jmpRm32 np (.mem16 (.direct 0))) = false := by decide

theorem test_wf_address_form :
    wellFormed .w16 (.jmpRm16 np (.mem16 (.based .bp .none))) = false ∧
    wellFormed .w32 (.jmpRm32 np (.mem32 (.based .esp .none))) = false ∧
    wellFormed .w32 (.jmpRm32 np (.mem32 (.based .ebp .none))) = false ∧
    wellFormed .w32 (.jmpRm32 np (.mem32 (.sib .x1 (some .esp) .eax .none))) = false ∧
    wellFormed .w32 (.jmpRm32 np (.mem32 (.sib .x1 none .ebp .none))) = false ∧
    wellFormed .w32 (.jmpRm32 np (.mem32 (.sibNoBase .x1 (some .esp) 0))) = false := by decide

/-! ### The word of every row, written out from R81 to R95; a synonym's word is its core row's (R104) -/

theorem test_decode_jcc_rel8 :
    decode .w16 [0x70, 0x10] = .ok (.joRel8 np 0x10) [] ∧
    decode .w16 [0x71, 0x11] = .ok (.jnoRel8 np 0x11) [] ∧
    decode .w16 [0x72, 0x12] = .ok (.jbRel8 np 0x12) [] ∧
    decode .w16 [0x72, 0x12] = .ok (Instr.jcRel8 np 0x12).core [] ∧
    decode .w16 [0x72, 0x12] = .ok (Instr.jnaeRel8 np 0x12).core [] ∧
    decode .w16 [0x73, 0x13] = .ok (.jaeRel8 np 0x13) [] ∧
    decode .w16 [0x73, 0x13] = .ok (Instr.jnbRel8 np 0x13).core [] ∧
    decode .w16 [0x73, 0x13] = .ok (Instr.jncRel8 np 0x13).core [] ∧
    decode .w16 [0x74, 0x14] = .ok (.jeRel8 np 0x14) [] ∧
    decode .w16 [0x74, 0x14] = .ok (Instr.jzRel8 np 0x14).core [] ∧
    decode .w16 [0x75, 0x15] = .ok (.jneRel8 np 0x15) [] ∧
    decode .w16 [0x75, 0x15] = .ok (Instr.jnzRel8 np 0x15).core [] ∧
    decode .w16 [0x76, 0x16] = .ok (.jbeRel8 np 0x16) [] ∧
    decode .w16 [0x76, 0x16] = .ok (Instr.jnaRel8 np 0x16).core [] ∧
    decode .w16 [0x77, 0x17] = .ok (.jaRel8 np 0x17) [] ∧
    decode .w16 [0x77, 0x17] = .ok (Instr.jnbeRel8 np 0x17).core [] ∧
    decode .w16 [0x78, 0x18] = .ok (.jsRel8 np 0x18) [] ∧
    decode .w16 [0x79, 0x19] = .ok (.jnsRel8 np 0x19) [] ∧
    decode .w16 [0x7A, 0x1A] = .ok (.jpRel8 np 0x1A) [] ∧
    decode .w16 [0x7A, 0x1A] = .ok (Instr.jpeRel8 np 0x1A).core [] ∧
    decode .w16 [0x7B, 0x1B] = .ok (.jnpRel8 np 0x1B) [] ∧
    decode .w16 [0x7B, 0x1B] = .ok (Instr.jpoRel8 np 0x1B).core [] ∧
    decode .w16 [0x7C, 0x1C] = .ok (.jlRel8 np 0x1C) [] ∧
    decode .w16 [0x7C, 0x1C] = .ok (Instr.jngeRel8 np 0x1C).core [] ∧
    decode .w16 [0x7D, 0x1D] = .ok (.jgeRel8 np 0x1D) [] ∧
    decode .w16 [0x7D, 0x1D] = .ok (Instr.jnlRel8 np 0x1D).core [] ∧
    decode .w16 [0x7E, 0x1E] = .ok (.jleRel8 np 0x1E) [] ∧
    decode .w16 [0x7E, 0x1E] = .ok (Instr.jngRel8 np 0x1E).core [] ∧
    decode .w16 [0x7F, 0x1F] = .ok (.jgRel8 np 0x1F) [] ∧
    decode .w16 [0x7F, 0x1F] = .ok (Instr.jnleRel8 np 0x1F).core [] := by decide +kernel

theorem test_decode_jcc_rel16 :
    decode .w16 [0x0F, 0x80, 0x00, 0x12] = .ok (.joRel16 np 0x1200) [] ∧
    decode .w16 [0x0F, 0x81, 0x01, 0x12] = .ok (.jnoRel16 np 0x1201) [] ∧
    decode .w16 [0x0F, 0x82, 0x02, 0x12] = .ok (.jbRel16 np 0x1202) [] ∧
    decode .w16 [0x0F, 0x82, 0x02, 0x12] = .ok (Instr.jcRel16 np 0x1202).core [] ∧
    decode .w16 [0x0F, 0x82, 0x02, 0x12] = .ok (Instr.jnaeRel16 np 0x1202).core [] ∧
    decode .w16 [0x0F, 0x83, 0x03, 0x12] = .ok (.jaeRel16 np 0x1203) [] ∧
    decode .w16 [0x0F, 0x83, 0x03, 0x12] = .ok (Instr.jnbRel16 np 0x1203).core [] ∧
    decode .w16 [0x0F, 0x83, 0x03, 0x12] = .ok (Instr.jncRel16 np 0x1203).core [] ∧
    decode .w16 [0x0F, 0x84, 0x04, 0x12] = .ok (.jeRel16 np 0x1204) [] ∧
    decode .w16 [0x0F, 0x84, 0x04, 0x12] = .ok (Instr.jzRel16 np 0x1204).core [] ∧
    decode .w16 [0x0F, 0x85, 0x05, 0x12] = .ok (.jneRel16 np 0x1205) [] ∧
    decode .w16 [0x0F, 0x85, 0x05, 0x12] = .ok (Instr.jnzRel16 np 0x1205).core [] ∧
    decode .w16 [0x0F, 0x86, 0x06, 0x12] = .ok (.jbeRel16 np 0x1206) [] ∧
    decode .w16 [0x0F, 0x86, 0x06, 0x12] = .ok (Instr.jnaRel16 np 0x1206).core [] ∧
    decode .w16 [0x0F, 0x87, 0x07, 0x12] = .ok (.jaRel16 np 0x1207) [] ∧
    decode .w16 [0x0F, 0x87, 0x07, 0x12] = .ok (Instr.jnbeRel16 np 0x1207).core [] ∧
    decode .w16 [0x0F, 0x88, 0x08, 0x12] = .ok (.jsRel16 np 0x1208) [] ∧
    decode .w16 [0x0F, 0x89, 0x09, 0x12] = .ok (.jnsRel16 np 0x1209) [] ∧
    decode .w16 [0x0F, 0x8A, 0x0A, 0x12] = .ok (.jpRel16 np 0x120A) [] ∧
    decode .w16 [0x0F, 0x8A, 0x0A, 0x12] = .ok (Instr.jpeRel16 np 0x120A).core [] ∧
    decode .w16 [0x0F, 0x8B, 0x0B, 0x12] = .ok (.jnpRel16 np 0x120B) [] ∧
    decode .w16 [0x0F, 0x8B, 0x0B, 0x12] = .ok (Instr.jpoRel16 np 0x120B).core [] ∧
    decode .w16 [0x0F, 0x8C, 0x0C, 0x12] = .ok (.jlRel16 np 0x120C) [] ∧
    decode .w16 [0x0F, 0x8C, 0x0C, 0x12] = .ok (Instr.jngeRel16 np 0x120C).core [] ∧
    decode .w16 [0x0F, 0x8D, 0x0D, 0x12] = .ok (.jgeRel16 np 0x120D) [] ∧
    decode .w16 [0x0F, 0x8D, 0x0D, 0x12] = .ok (Instr.jnlRel16 np 0x120D).core [] ∧
    decode .w16 [0x0F, 0x8E, 0x0E, 0x12] = .ok (.jleRel16 np 0x120E) [] ∧
    decode .w16 [0x0F, 0x8E, 0x0E, 0x12] = .ok (Instr.jngRel16 np 0x120E).core [] ∧
    decode .w16 [0x0F, 0x8F, 0x0F, 0x12] = .ok (.jgRel16 np 0x120F) [] ∧
    decode .w16 [0x0F, 0x8F, 0x0F, 0x12] = .ok (Instr.jnleRel16 np 0x120F).core [] := by decide +kernel

theorem test_decode_jcc_rel32 :
    decode .w32 [0x0F, 0x80, 0x00, 0x34, 0x56, 0x78] = .ok (.joRel32 np 0x78563400) [] ∧
    decode .w32 [0x0F, 0x81, 0x01, 0x34, 0x56, 0x78] = .ok (.jnoRel32 np 0x78563401) [] ∧
    decode .w32 [0x0F, 0x82, 0x02, 0x34, 0x56, 0x78] = .ok (.jbRel32 np 0x78563402) [] ∧
    decode .w32 [0x0F, 0x82, 0x02, 0x34, 0x56, 0x78] = .ok (Instr.jcRel32 np 0x78563402).core [] ∧
    decode .w32 [0x0F, 0x82, 0x02, 0x34, 0x56, 0x78] = .ok (Instr.jnaeRel32 np 0x78563402).core [] ∧
    decode .w32 [0x0F, 0x83, 0x03, 0x34, 0x56, 0x78] = .ok (.jaeRel32 np 0x78563403) [] ∧
    decode .w32 [0x0F, 0x83, 0x03, 0x34, 0x56, 0x78] = .ok (Instr.jnbRel32 np 0x78563403).core [] ∧
    decode .w32 [0x0F, 0x83, 0x03, 0x34, 0x56, 0x78] = .ok (Instr.jncRel32 np 0x78563403).core [] ∧
    decode .w32 [0x0F, 0x84, 0x04, 0x34, 0x56, 0x78] = .ok (.jeRel32 np 0x78563404) [] ∧
    decode .w32 [0x0F, 0x84, 0x04, 0x34, 0x56, 0x78] = .ok (Instr.jzRel32 np 0x78563404).core [] ∧
    decode .w32 [0x0F, 0x85, 0x05, 0x34, 0x56, 0x78] = .ok (.jneRel32 np 0x78563405) [] ∧
    decode .w32 [0x0F, 0x85, 0x05, 0x34, 0x56, 0x78] = .ok (Instr.jnzRel32 np 0x78563405).core [] ∧
    decode .w32 [0x0F, 0x86, 0x06, 0x34, 0x56, 0x78] = .ok (.jbeRel32 np 0x78563406) [] ∧
    decode .w32 [0x0F, 0x86, 0x06, 0x34, 0x56, 0x78] = .ok (Instr.jnaRel32 np 0x78563406).core [] ∧
    decode .w32 [0x0F, 0x87, 0x07, 0x34, 0x56, 0x78] = .ok (.jaRel32 np 0x78563407) [] ∧
    decode .w32 [0x0F, 0x87, 0x07, 0x34, 0x56, 0x78] = .ok (Instr.jnbeRel32 np 0x78563407).core [] ∧
    decode .w32 [0x0F, 0x88, 0x08, 0x34, 0x56, 0x78] = .ok (.jsRel32 np 0x78563408) [] ∧
    decode .w32 [0x0F, 0x89, 0x09, 0x34, 0x56, 0x78] = .ok (.jnsRel32 np 0x78563409) [] ∧
    decode .w32 [0x0F, 0x8A, 0x0A, 0x34, 0x56, 0x78] = .ok (.jpRel32 np 0x7856340A) [] ∧
    decode .w32 [0x0F, 0x8A, 0x0A, 0x34, 0x56, 0x78] = .ok (Instr.jpeRel32 np 0x7856340A).core [] ∧
    decode .w32 [0x0F, 0x8B, 0x0B, 0x34, 0x56, 0x78] = .ok (.jnpRel32 np 0x7856340B) [] ∧
    decode .w32 [0x0F, 0x8B, 0x0B, 0x34, 0x56, 0x78] = .ok (Instr.jpoRel32 np 0x7856340B).core [] ∧
    decode .w32 [0x0F, 0x8C, 0x0C, 0x34, 0x56, 0x78] = .ok (.jlRel32 np 0x7856340C) [] ∧
    decode .w32 [0x0F, 0x8C, 0x0C, 0x34, 0x56, 0x78] = .ok (Instr.jngeRel32 np 0x7856340C).core [] ∧
    decode .w32 [0x0F, 0x8D, 0x0D, 0x34, 0x56, 0x78] = .ok (.jgeRel32 np 0x7856340D) [] ∧
    decode .w32 [0x0F, 0x8D, 0x0D, 0x34, 0x56, 0x78] = .ok (Instr.jnlRel32 np 0x7856340D).core [] ∧
    decode .w32 [0x0F, 0x8E, 0x0E, 0x34, 0x56, 0x78] = .ok (.jleRel32 np 0x7856340E) [] ∧
    decode .w32 [0x0F, 0x8E, 0x0E, 0x34, 0x56, 0x78] = .ok (Instr.jngRel32 np 0x7856340E).core [] ∧
    decode .w32 [0x0F, 0x8F, 0x0F, 0x34, 0x56, 0x78] = .ok (.jgRel32 np 0x7856340F) [] ∧
    decode .w32 [0x0F, 0x8F, 0x0F, 0x34, 0x56, 0x78] = .ok (Instr.jnleRel32 np 0x7856340F).core [] := by decide +kernel

theorem test_decode_count :
    decode .w16 [0xE3, 0x10] = .ok (.jcxzRel8 np 0x10) [] ∧
    decode .w32 [0xE3, 0xFE] = .ok (.jecxzRel8 np 0xFE) [] ∧
    decode .w16 [0x67, 0xE3, 0x10] = .ok (.jecxzRel8 p67 0x10) [] ∧
    decode .w32 [0x67, 0xE3, 0x10] = .ok (.jcxzRel8 p67 0x10) [] := by decide +kernel

theorem test_decode_jmp_near :
    decode .w16 [0xEB, 0x80] = .ok (.jmpRel8 np 0x80) [] ∧
    decode .w16 [0xE9, 0xFC, 0xFE] = .ok (.jmpRel16 np 0xFEFC) [] ∧
    decode .w32 [0xE9, 0xFB, 0x0F, 0x00, 0x00] = .ok (.jmpRel32 np 0xFFB) [] ∧
    decode .w32 [0x66, 0xE9, 0x34, 0x12] = .ok (.jmpRel16 p66 0x1234) [] ∧
    decode .w16 [0xFF, 0xE3] = .ok (.jmpRm16 np (.reg .ebx)) [] ∧
    decode .w16 [0xFF, 0x26, 0x00, 0x02] = .ok (.jmpRm16 np (.mem16 (.direct 0x200))) [] ∧
    decode .w16 [0xFF, 0x63, 0xFE] = .ok (.jmpRm16 np (.mem16 (.based .bpDi (.d8 0xFE)))) [] ∧
    decode .w16 [0x2E, 0xFF, 0xA7, 0x34, 0x12] = .ok (.jmpRm16 ⟨false, false, some .cs⟩ (.mem16 (.based .bx (.d16 0x1234)))) [] ∧
    decode .w32 [0xFF, 0xE7] = .ok (.jmpRm32 np (.reg .edi)) [] ∧
    decode .w32 [0xFF, 0x25, 0x78, 0x56, 0x34, 0x12] = .ok (.jmpRm32 np (.mem32 (.direct 0x12345678))) [] ∧
    decode .w32 [0xFF, 0x64, 0xD1, 0x08] = .ok (.jmpRm32 np (.mem32 (.sib .x8 (some .edx) .ecx (.d8 8)))) [] ∧
    decode .w32 [0xFF, 0x24, 0x24] = .ok (.jmpRm32 np (.mem32 (.sib .x1 none .esp .none))) [] ∧
    decode .w32 [0x67, 0xFF, 0x27] = .ok (.jmpRm32 p67 (.mem16 (.based .bx .none))) [] := by decide +kernel

theorem test_decode_jmp_far :
    decode .w16 [0xEA, 0x34, 0x12, 0x78, 0x56] = .ok (.jmpPtr16x16 np 0x1234 0x5678) [] ∧
    decode .w32 [0xEA, 0x34, 0x12, 0xCD, 0xAB, 0x08, 0x00] = .ok (.jmpPtr16x32 np 0xABCD1234 8) [] ∧
    decode .w16 [0xFF, 0x2E, 0x00, 0x05] = .ok (.jmpM16x16 np (.mem16 (.direct 0x500))) [] ∧
    decode .w32 [0xFF, 0x6D, 0x00] = .ok (.jmpM16x32 np (.mem32 (.based .ebp (.d8 0)))) [] ∧
    decode .w16 [0xFF, 0xE8] = .ok (.jmpM16x16 np (.reg .eax)) [] := by decide +kernel

theorem test_decode_ends_inside_an_instruction :
    decode .w16 [] = .truncated ∧ decode .w16 [0x66] = .truncated ∧ decode .w16 [0x70] = .truncated ∧
    decode .w16 [0xFF, 0x26, 0x00] = .truncated ∧ decode .w32 [0xFF, 0x24] = .truncated := by decide +kernel

theorem test_decodeTableWord :
    decodeTableWord 16 0x107E = some (.jleRel8 np 0x10) ∧ decodeTableWord 16 0x810F = some (.jnoRel16 np 0) ∧
    decodeTableWord 8 0xEA = some (.jmpPtr16x16 np 0 0) ∧
    decodeTableWord 16 0x28FF = some (.jmpM16x16 np (.mem16 (.based .bxSi .none))) ∧
    decodeTableWord 8 0x90 = none := by decide +kernel

theorem test_withFetchWord_runs_first :
    eipOf (step (State.reset.withFetchWord 16 0x10EB)) = some 0x2 ∧
    eipOf (step (State.reset.withFetchWord 8 0x71)) = some 0xFFF2 := by decide +kernel

/-- Nothing is loaded after reset: the first fetch meets undefined memory (R60, R230). -/
theorem test_reset_fetches_undefined_memory :
    faultOf (step State.reset) = some (.undefinedRead 0xFFFFFFF0 0xFFF0) := by decide +kernel

/-! ### The condition function (`95_test_vectors.md` section 2.1) -/

/-- The rows of the table in its order, bit `cc` of a number standing for column `cc`. -/
def conditionRows : List Nat :=
  [0xAAAA, 0x5AA9, 0x59AA, 0xA9A9, 0x6A5A, 0x5A59, 0x595A, 0x6959, 0xA6AA, 0x56A9, 0x55AA,
   0xA5A9, 0x665A, 0x5659, 0x555A, 0x6559, 0xAA66, 0x5A65, 0x5966, 0xA965, 0x6A56, 0x5A55,
   0x5956, 0x6955, 0xA666, 0x5665, 0x5566, 0xA565, 0x6656, 0x5655, 0x5556, 0x6555]

/-- Row `n` of the table: CF, PF, ZF, SF, OF are the bits of `n`, CF first. -/
def rowFlags (n : Nat) : StatusFlags :=
  { cf := n.testBit 4, pf := n.testBit 3, zf := n.testBit 2, sf := n.testBit 1, of := n.testBit 0 }

theorem test_condition_table :
    ∀ n : Fin 32, ∀ c : Fin 16,
      condHolds (Cond.ofCode (BitVec.ofNat 4 c)) (rowFlags n) = (conditionRows.getD n 0).testBit c := by decide +kernel

/-! ### The worked examples of `40_jcc.md` (R114 to R147), one theorem per opcode and form -/

theorem test_R114 :
    eipOf (step { real 0x0100 [0x70, 0x05] with eflags := flagBits 0 0 0 0 1 }) = some 0x0107 ∧
    eipOf (step { real 0x0100 [0x70, 0x05] with eflags := flagBits 1 1 1 1 0 }) = some 0x0102 := by decide +kernel

theorem test_R115 :
    eipOf (step { real 0x0110 [0x71, 0x06] with eflags := flagBits 1 1 1 1 0 }) = some 0x0118 ∧
    eipOf (step { real 0x0110 [0x71, 0x06] with eflags := flagBits 0 0 0 0 1 }) = some 0x0112 := by decide +kernel

theorem test_R116 :
    eipOf (step { real 0x0120 [0x72, 0x07] with eflags := flagBits 1 0 0 0 0 }) = some 0x0129 ∧
    eipOf (step { real 0x0120 [0x72, 0x07] with eflags := flagBits 0 1 1 1 1 }) = some 0x0122 := by decide +kernel

theorem test_R117 :
    eipOf (step { real 0x0130 [0x73, 0x08] with eflags := flagBits 0 0 1 0 0 }) = some 0x013A ∧
    eipOf (step { real 0x0130 [0x73, 0x08] with eflags := flagBits 1 0 0 0 0 }) = some 0x0132 := by decide +kernel

theorem test_R118 :
    eipOf (step { real 0x0140 [0x74, 0x09] with eflags := flagBits 0 0 1 0 0 }) = some 0x014B ∧
    eipOf (step { real 0x0140 [0x74, 0x09] with eflags := flagBits 1 1 0 1 1 }) = some 0x0142 := by decide +kernel

theorem test_R119 :
    eipOf (step { real 0x0150 [0x75, 0x0A] with eflags := flagBits 1 0 0 0 0 }) = some 0x015C ∧
    eipOf (step { real 0x0150 [0x75, 0x0A] with eflags := flagBits 0 0 1 0 0 }) = some 0x0152 := by decide +kernel

theorem test_R120 :
    eipOf (step { real 0x0160 [0x76, 0x0B] with eflags := flagBits 0 0 1 0 0 }) = some 0x016D ∧
    eipOf (step { real 0x0160 [0x76, 0x0B] with eflags := flagBits 0 1 0 1 1 }) = some 0x0162 := by decide +kernel

theorem test_R121 :
    eipOf (step { real 0x0170 [0x77, 0x0C] with eflags := flagBits 0 1 0 1 1 }) = some 0x017E ∧
    eipOf (step { real 0x0170 [0x77, 0x0C] with eflags := flagBits 0 0 1 0 0 }) = some 0x0172 := by decide +kernel

theorem test_R122 :
    eipOf (step { real 0x0180 [0x78, 0x0D] with eflags := flagBits 0 0 0 1 0 }) = some 0x018F ∧
    eipOf (step { real 0x0180 [0x78, 0x0D] with eflags := flagBits 1 1 1 0 1 }) = some 0x0182 := by decide +kernel

theorem test_R123 :
    eipOf (step { real 0x0190 [0x79, 0x0E] with eflags := flagBits 0 0 0 0 1 }) = some 0x01A0 ∧
    eipOf (step { real 0x0190 [0x79, 0x0E] with eflags := flagBits 0 0 0 1 0 }) = some 0x0192 := by decide +kernel

theorem test_R124 :
    eipOf (step { real 0x01A0 [0x7A, 0x0F] with eflags := flagBits 0 1 0 0 0 }) = some 0x01B1 ∧
    eipOf (step { real 0x01A0 [0x7A, 0x0F] with eflags := flagBits 1 0 1 1 1 }) = some 0x01A2 := by decide +kernel

theorem test_R125 :
    eipOf (step { real 0x01B0 [0x7B, 0x10] with eflags := flagBits 0 0 1 0 0 }) = some 0x01C2 ∧
    eipOf (step { real 0x01B0 [0x7B, 0x10] with eflags := flagBits 0 1 0 0 0 }) = some 0x01B2 := by decide +kernel

theorem test_R126 :
    eipOf (step { real 0x01C0 [0x7C, 0x11] with eflags := flagBits 0 0 0 1 0 }) = some 0x01D3 ∧
    eipOf (step { real 0x01C0 [0x7C, 0x11] with eflags := flagBits 0 0 0 1 1 }) = some 0x01C2 := by decide +kernel

theorem test_R127 :
    eipOf (step { real 0x01D0 [0x7D, 0x12] with eflags := flagBits 0 0 0 1 1 }) = some 0x01E4 ∧
    eipOf (step { real 0x01D0 [0x7D, 0x12] with eflags := flagBits 0 0 1 0 1 }) = some 0x01D2 := by decide +kernel

theorem test_R128 :
    eipOf (step { real 0x01E0 [0x7E, 0x13] with eflags := flagBits 0 0 0 0 1 }) = some 0x01F5 ∧
    eipOf (step { real 0x01E0 [0x7E, 0x13] with eflags := flagBits 0 0 0 1 1 }) = some 0x01E2 := by decide +kernel

theorem test_R129 :
    eipOf (step { real 0x01F0 [0x7F, 0x14] with eflags := flagBits 0 0 0 1 1 }) = some 0x0206 ∧
    eipOf (step { real 0x01F0 [0x7F, 0x14] with eflags := flagBits 0 0 1 0 0 }) = some 0x01F2 := by decide +kernel

theorem test_R132 :
    eipOf (step { prot 0x00401000 [0x0F, 0x80, 0xE0, 0xFF, 0xFF, 0xFF] with eflags := flagBits 0 0 0 0 1 }) = some 0x00400FE6 ∧
    eipOf (step { prot 0x00401000 [0x0F, 0x80, 0xE0, 0xFF, 0xFF, 0xFF] with eflags := flagBits 1 1 1 1 0 }) = some 0x00401006 ∧
    eipOf (step { real 0xFF00 [0x0F, 0x80, 0x00, 0x01] with eflags := flagBits 0 0 0 0 1 }) = some 0x0004 := by decide +kernel

theorem test_R133 :
    eipOf (step { prot 0x00401100 [0x0F, 0x81, 0xDF, 0xFF, 0xFF, 0xFF] with eflags := flagBits 1 1 1 1 0 }) = some 0x004010E5 ∧
    eipOf (step { prot 0x00401100 [0x0F, 0x81, 0xDF, 0xFF, 0xFF, 0xFF] with eflags := flagBits 0 0 0 0 1 }) = some 0x00401106 ∧
    eipOf (step { real 0xFF10 [0x0F, 0x81, 0x00, 0x01] with eflags := flagBits 1 1 1 1 0 }) = some 0x0014 := by decide +kernel

theorem test_R134 :
    eipOf (step { prot 0x00401200 [0x0F, 0x82, 0xDE, 0xFF, 0xFF, 0xFF] with eflags := flagBits 1 0 0 0 0 }) = some 0x004011E4 ∧
    eipOf (step { prot 0x00401200 [0x0F, 0x82, 0xDE, 0xFF, 0xFF, 0xFF] with eflags := flagBits 0 1 1 1 1 }) = some 0x00401206 ∧
    eipOf (step { real 0xFF20 [0x0F, 0x82, 0x00, 0x01] with eflags := flagBits 1 0 0 0 0 }) = some 0x0024 := by decide +kernel

theorem test_R135 :
    eipOf (step { prot 0x00401300 [0x0F, 0x83, 0xDD, 0xFF, 0xFF, 0xFF] with eflags := flagBits 0 0 1 0 0 }) = some 0x004012E3 ∧
    eipOf (step { prot 0x00401300 [0x0F, 0x83, 0xDD, 0xFF, 0xFF, 0xFF] with eflags := flagBits 1 0 0 0 0 }) = some 0x00401306 ∧
    eipOf (step { real 0xFF30 [0x0F, 0x83, 0x00, 0x01] with eflags := flagBits 0 0 1 0 0 }) = some 0x0034 := by decide +kernel

theorem test_R136 :
    eipOf (step { prot 0x00401400 [0x0F, 0x84, 0xDC, 0xFF, 0xFF, 0xFF] with eflags := flagBits 0 0 1 0 0 }) = some 0x004013E2 ∧
    eipOf (step { prot 0x00401400 [0x0F, 0x84, 0xDC, 0xFF, 0xFF, 0xFF] with eflags := flagBits 1 1 0 1 1 }) = some 0x00401406 ∧
    eipOf (step { real 0xFF40 [0x0F, 0x84, 0x00, 0x01] with eflags := flagBits 0 0 1 0 0 }) = some 0x0044 := by decide +kernel

theorem test_R137 :
    eipOf (step { prot 0x00401500 [0x0F, 0x85, 0xDB, 0xFF, 0xFF, 0xFF] with eflags := flagBits 1 0 0 0 0 }) = some 0x004014E1 ∧
    eipOf (step { prot 0x00401500 [0x0F, 0x85, 0xDB, 0xFF, 0xFF, 0xFF] with eflags := flagBits 0 0 1 0 0 }) = some 0x00401506 ∧
    eipOf (step { real 0xFF50 [0x0F, 0x85, 0x00, 0x01] with eflags := flagBits 1 0 0 0 0 }) = some 0x0054 := by decide +kernel

theorem test_R138 :
    eipOf (step { prot 0x00401600 [0x0F, 0x86, 0xDA, 0xFF, 0xFF, 0xFF] with eflags := flagBits 0 0 1 0 0 }) = some 0x004015E0 ∧
    eipOf (step { prot 0x00401600 [0x0F, 0x86, 0xDA, 0xFF, 0xFF, 0xFF] with eflags := flagBits 0 1 0 1 1 }) = some 0x00401606 ∧
    eipOf (step { real 0xFF60 [0x0F, 0x86, 0x00, 0x01] with eflags := flagBits 0 0 1 0 0 }) = some 0x0064 := by decide +kernel

theorem test_R139 :
    eipOf (step { prot 0x00401700 [0x0F, 0x87, 0xD9, 0xFF, 0xFF, 0xFF] with eflags := flagBits 0 1 0 1 1 }) = some 0x004016DF ∧
    eipOf (step { prot 0x00401700 [0x0F, 0x87, 0xD9, 0xFF, 0xFF, 0xFF] with eflags := flagBits 0 0 1 0 0 }) = some 0x00401706 ∧
    eipOf (step { real 0xFF70 [0x0F, 0x87, 0x00, 0x01] with eflags := flagBits 0 1 0 1 1 }) = some 0x0074 := by decide +kernel

theorem test_R140 :
    eipOf (step { prot 0x00401800 [0x0F, 0x88, 0xD8, 0xFF, 0xFF, 0xFF] with eflags := flagBits 0 0 0 1 0 }) = some 0x004017DE ∧
    eipOf (step { prot 0x00401800 [0x0F, 0x88, 0xD8, 0xFF, 0xFF, 0xFF] with eflags := flagBits 1 1 1 0 1 }) = some 0x00401806 ∧
    eipOf (step { real 0xFF80 [0x0F, 0x88, 0x00, 0x01] with eflags := flagBits 0 0 0 1 0 }) = some 0x0084 := by decide +kernel

theorem test_R141 :
    eipOf (step { prot 0x00401900 [0x0F, 0x89, 0xD7, 0xFF, 0xFF, 0xFF] with eflags := flagBits 0 0 0 0 1 }) = some 0x004018DD ∧
    eipOf (step { prot 0x00401900 [0x0F, 0x89, 0xD7, 0xFF, 0xFF, 0xFF] with eflags := flagBits 0 0 0 1 0 }) = some 0x00401906 ∧
    eipOf (step { real 0xFF90 [0x0F, 0x89, 0x00, 0x01] with eflags := flagBits 0 0 0 0 1 }) = some 0x0094 := by decide +kernel

theorem test_R142 :
    eipOf (step { prot 0x00401A00 [0x0F, 0x8A, 0xD6, 0xFF, 0xFF, 0xFF] with eflags := flagBits 0 1 0 0 0 }) = some 0x004019DC ∧
    eipOf (step { prot 0x00401A00 [0x0F, 0x8A, 0xD6, 0xFF, 0xFF, 0xFF] with eflags := flagBits 1 0 1 1 1 }) = some 0x00401A06 ∧
    eipOf (step { real 0xFFA0 [0x0F, 0x8A, 0x00, 0x01] with eflags := flagBits 0 1 0 0 0 }) = some 0x00A4 := by decide +kernel

theorem test_R143 :
    eipOf (step { prot 0x00401B00 [0x0F, 0x8B, 0xD5, 0xFF, 0xFF, 0xFF] with eflags := flagBits 0 0 1 0 0 }) = some 0x00401ADB ∧
    eipOf (step { prot 0x00401B00 [0x0F, 0x8B, 0xD5, 0xFF, 0xFF, 0xFF] with eflags := flagBits 0 1 0 0 0 }) = some 0x00401B06 ∧
    eipOf (step { real 0xFFB0 [0x0F, 0x8B, 0x00, 0x01] with eflags := flagBits 0 0 1 0 0 }) = some 0x00B4 := by decide +kernel

theorem test_R144 :
    eipOf (step { prot 0x00401C00 [0x0F, 0x8C, 0xD4, 0xFF, 0xFF, 0xFF] with eflags := flagBits 0 0 0 1 0 }) = some 0x00401BDA ∧
    eipOf (step { prot 0x00401C00 [0x0F, 0x8C, 0xD4, 0xFF, 0xFF, 0xFF] with eflags := flagBits 0 0 0 1 1 }) = some 0x00401C06 ∧
    eipOf (step { real 0xFFC0 [0x0F, 0x8C, 0x00, 0x01] with eflags := flagBits 0 0 0 1 0 }) = some 0x00C4 := by decide +kernel

theorem test_R145 :
    eipOf (step { prot 0x00401D00 [0x0F, 0x8D, 0xD3, 0xFF, 0xFF, 0xFF] with eflags := flagBits 0 0 0 1 1 }) = some 0x00401CD9 ∧
    eipOf (step { prot 0x00401D00 [0x0F, 0x8D, 0xD3, 0xFF, 0xFF, 0xFF] with eflags := flagBits 0 0 1 0 1 }) = some 0x00401D06 ∧
    eipOf (step { real 0xFFD0 [0x0F, 0x8D, 0x00, 0x01] with eflags := flagBits 0 0 0 1 1 }) = some 0x00D4 := by decide +kernel

theorem test_R146 :
    eipOf (step { prot 0x00401E00 [0x0F, 0x8E, 0xD2, 0xFF, 0xFF, 0xFF] with eflags := flagBits 0 0 0 0 1 }) = some 0x00401DD8 ∧
    eipOf (step { prot 0x00401E00 [0x0F, 0x8E, 0xD2, 0xFF, 0xFF, 0xFF] with eflags := flagBits 0 0 0 1 1 }) = some 0x00401E06 ∧
    eipOf (step { real 0xFFE0 [0x0F, 0x8E, 0x00, 0x01] with eflags := flagBits 0 0 0 0 1 }) = some 0x00E4 := by decide +kernel

theorem test_R147 :
    eipOf (step { prot 0x00401F00 [0x0F, 0x8F, 0xD1, 0xFF, 0xFF, 0xFF] with eflags := flagBits 0 0 0 1 1 }) = some 0x00401ED7 ∧
    eipOf (step { prot 0x00401F00 [0x0F, 0x8F, 0xD1, 0xFF, 0xFF, 0xFF] with eflags := flagBits 0 0 1 0 0 }) = some 0x00401F06 ∧
    eipOf (step { real 0xFFF0 [0x0F, 0x8F, 0x00, 0x01] with eflags := flagBits 0 0 0 1 1 }) = some 0x00F4 := by decide +kernel

/-! ### JCXZ, JECXZ and the near forms of JMP: the examples of R130, R131, R163 to R167 and rows of section 2.4, 3 -/

theorem test_R130 :
    eipOf (step { real 0x200 [0xE3, 0x10] with regs := { State.reset.regs with ecx := 0x12340000 } }) = some 0x212 ∧
    eipOf (step { real 0x200 [0xE3, 0x10] with regs := { State.reset.regs with ecx := 1 } }) = some 0x202 := by
  decide +kernel

theorem test_R131 :
    eipOf (step (prot 0x401000 [0xE3, 0xFE])) = some 0x401000 ∧
    eipOf (step { prot 0x401000 [0xE3, 0xFE] with regs := { State.reset.regs with ecx := 0x10000 } }) =
      some 0x401002 := by decide +kernel

theorem test_R163 :
    eipOf (step (real 0x10 [0xEB, 0x80])) = some 0xFF92 ∧ eipOf (step (real 0xFFF0 [0xEB, 0x7F])) = some 0x71 := by
  decide +kernel

theorem test_R164 : eipOf (step (real 0x100 [0xE9, 0xFC, 0xFE])) = some 0xFFFF := by decide +kernel

/-- The limit of the example of R165. -/
def limited : State :=
  { prot 0x1000 [0xE9, 0xFB, 0xFF, 0x0F, 0x00] with cs := { flat 8 0x9A with limit := 0xFFFFF } }

theorem test_R165 :
    eipOf (step { limited with mem := cells 0x1000 [0xE9, 0xFB, 0x0F, 0x00, 0x00] }) = some 0x2000 ∧
    faultOf (step limited) = some (.exception .gp (some 0) 0x1000) := by decide +kernel

theorem test_R166 :
    eipOf (step { real 0x100 [0xFF, 0xE3] with regs := { State.reset.regs with ebx := 0x12345678 } }) = some 0x5678 ∧
    eipOf (step { real 0x100 [0xFF, 0x26, 0x00, 0x02] with
      ds := { State.reset.ds with base := 0x10000 }
      mem := cells 0x100 [0xFF, 0x26, 0x00, 0x02] ++ cells 0x10200 [0x34, 0x12] }) = some 0x1234 := by decide +kernel

/-- The jump table of the example of R167, at the entry that EAX picks. -/
def jumpTable (eax : Word32) : State :=
  { prot 0x401000 [] with
    regs := { State.reset.regs with eax := eax }
    mem := cells 0x2008 [0x00, 0x30, 0x40, 0x00] ++ cells 0x401000 [0xFF, 0x24, 0x85, 0x00, 0x20, 0x00, 0x00] }

theorem test_R167 :
    eipOf (step (jumpTable 2)) = some 0x403000 ∧
    faultOf (step (jumpTable 3)) = some (.undefinedRead 0x200C 0x401000) := by decide +kernel

/-! ### The far forms of JMP: the examples of R180 to R194, rows of section 4 -/

/-- CS and EIP after a far jump of Real mode. -/
def realFar (sel : Word16) (base : Word32) : Segment := { State.reset.cs with selector := sel, base := base }

theorem test_R180_real :
    csOf (step (real 0x100 [0xEA, 0x00, 0x01, 0x00, 0x20])) = some (realFar 0x2000 0x20000) ∧
    eipOf (step (real 0x100 [0xEA, 0x00, 0x01, 0x00, 0x20])) = some 0x100 ∧
    csOf (step (v86 0x100 [0xEA, 0x00, 0x00, 0x28, 0x00])) = some (realFar 0x28 0x280) := by decide +kernel

theorem test_R181_real :
    csOf (step (real 0x100 [0x66, 0xEA, 0x78, 0x56, 0x34, 0x12, 0x00, 0x30])) = some (realFar 0x3000 0x30000) ∧
    eipOf (step (real 0x100 [0x66, 0xEA, 0x78, 0x56, 0x34, 0x12, 0x00, 0x30])) = some 0x12345678 := by decide +kernel

/-- JMP FAR [0500H] with the pointer of the example of R182. -/
def farPointer : State :=
  { real 0x100 [] with mem := cells 0x100 [0xFF, 0x2E, 0x00, 0x05] ++ cells 0x500 [0x78, 0x56, 0x00, 0x30] }

theorem test_R182_real :
    csOf (step farPointer) = some (realFar 0x3000 0x30000) ∧ eipOf (step farPointer) = some 0x5678 ∧
    faultOf (step { real 0x100 [0xFF, 0x2F] with regs := { State.reset.regs with ebx := 0xFFFD } }) =
      some (.exception .gp none 0x100) := by decide +kernel

/-- JMP FAR [00006000H] at privilege 3 with the pointer of the example of R183. -/
def farPointer32 : State :=
  { table 3 [] with
    mem := cells 0x1000 gdt ++ cells 0x6000 [0x00, 0x10, 0x00, 0x00, 0x1B, 0x00] ++
      cells 0x401000 [0xFF, 0x2D, 0x00, 0x60, 0x00, 0x00] }

theorem test_R183_protected :
    csOf (step farPointer32) = some (flat 0x1B 0x9E) ∧ eipOf (step farPointer32) = some 0x1000 ∧
    faultOf (step (real 0x100 [0x66, 0xFF, 0xE8])) = some (.exception .ud none 0x100) := by decide +kernel

/-- JMP ptr16:32 to a selector and offset at a privilege level. -/
def jumpTo (cpl : BitVec 2) (sel : Word16) (off : Word32) : Out :=
  step (table cpl (encode (.jmpPtr16x32 np off sel)))

/-- JMP ptr16:16 (66) to a selector and offset at a privilege level. -/
def jumpTo16 (cpl : BitVec 2) (sel : Word16) (off : Word16) : Out :=
  step (table cpl (encode (.jmpPtr16x16 p66 off sel)))

/-- The segment of selector 0033H of the table. -/
def segment33 : Segment :=
  { selector := 0x33, base := 0x20000, limit := 0xFFFF, ar := 0xFA, d := false, unusable := false }

theorem test_R186_R188 :
    faultOf (jumpTo 0 0x0003 0x10) = some (.exception .gp (some 0) 0x401000) ∧
    faultOf (jumpTo 0 0x0004 0x10) = some (.exception .gp (some 0x4) 0x401000) ∧
    faultOf (jumpTo 0 0x0088 0x10) = some (.exception .gp (some 0x88) 0x401000) ∧
    faultOf (jumpTo 0 0x0010 0x10) = some (.exception .gp (some 0x10) 0x401000) := by decide +kernel

theorem test_R189 :
    csOf (jumpTo 3 0x18 0x1000) = some (flat 0x1B 0x9E) ∧ eipOf (jumpTo 3 0x18 0x1000) = some 0x1000 ∧
    faultOf (jumpTo 0 0x80 0x10) = some (.exception .gp (some 0x80) 0x401000) := by decide +kernel

theorem test_R190 :
    csOf (jumpTo 3 0x30 0x10) = some segment33 ∧ eipOf (jumpTo 3 0x33 0xFFFF) = some 0xFFFF ∧
    faultOf (jumpTo 3 0x33 0x10000) = some (.exception .gp (some 0) 0x401000) ∧
    faultOf (jumpTo 3 0x0B 0x10) = some (.exception .gp (some 0x8) 0x401000) ∧
    faultOf (jumpTo 0 0x0B 0x10) = some (.exception .gp (some 0x8) 0x401000) ∧
    faultOf (jumpTo 0 0x38 0x10) = some (.exception .np (some 0x38) 0x401000) := by decide +kernel

theorem test_R191_R192 :
    csOf (jumpTo 0 0x20 0x9999) = some (flat 8 0x9A) ∧ eipOf (jumpTo 0 0x20 0x9999) = some 0x5000 ∧
    eipOf (jumpTo16 0 0x50 0) = some 0x1234 ∧
    refusalOf (jumpTo16 0 0x20 0) = some (.callGateSizeMismatch 0x401000) ∧
    refusalOf (jumpTo 0 0x50 0) = some (.callGateSizeMismatch 0x401000) ∧
    faultOf (jumpTo 3 0x53 0) = some (.exception .gp (some 0x50) 0x401000) ∧
    faultOf (jumpTo 0 0x51 0) = some (.exception .gp (some 0x50) 0x401000) ∧
    faultOf (jumpTo 0 0x58 0) = some (.exception .gp (some 0) 0x401000) ∧
    faultOf (jumpTo 0 0x60 0) = some (.exception .gp (some 0x10) 0x401000) ∧
    faultOf (jumpTo 3 0x23 0) = some (.exception .gp (some 0x8) 0x401000) ∧
    faultOf (jumpTo 3 0x7B 0) = some (.exception .gp (some 0) 0x401000) := by decide +kernel

theorem test_R193_R194_R197 :
    refusalOf (jumpTo 0 0x40 0) = some (.taskSwitchNotModelled 0x401000) ∧
    faultOf (jumpTo 3 0x43 0) = some (.exception .gp (some 0x40) 0x401000) ∧
    faultOf (jumpTo 0 0x68 0) = some (.exception .gp (some 0x2C) 0x401000) ∧
    faultOf (jumpTo 0 0x70 0) = some (.exception .gp (some 0x48) 0x401000) ∧
    refusalOf (jumpTo 0 0x28 0) = some (.taskSwitchNotModelled 0x401000) ∧
    faultOf (jumpTo 3 0x2B 0) = some (.exception .gp (some 0x28) 0x401000) ∧
    faultOf (jumpTo 0 0x48 0) = some (.exception .gp (some 0x48) 0x401000) := by decide +kernel

/-! ### Refusals and fetch faults: rows of section 5 -/

theorem test_decoder_refusals :
    refusalOf (step (real 0x100 [0xFF, 0x30])) = some (.opcodeOutOfScope 0x100) ∧
    refusalOf (step (real 0x100 [0x90])) = some (.opcodeOutOfScope 0x100) ∧
    refusalOf (step (real 0x100 [0x0F, 0x05])) = some (.opcodeOutOfScope 0x100) ∧
    refusalOf (step (real 0x100 [0xF0, 0xEB, 0x00])) = some (.prefixNotModelled 0x100) ∧
    refusalOf (step (real 0x100 [0x66, 0x66, 0xEB, 0x00])) = some (.prefixNotModelled 0x100) ∧
    refusalOf (step (real 0x100 [0x3E, 0xEB, 0x00])) = some (.prefixNotModelled 0x100) ∧
    refusalOf (step (real 0x100 [0x2E, 0x3E, 0xFF, 0x27])) = some (.prefixNotModelled 0x100) ∧
    refusalOf (step (real 0x100 [0x3E, 0xFF, 0xE3])) = some (.prefixNotModelled 0x100) ∧
    eipOf (step (real 0x100 [0x67, 0x66, 0xEB, 0x10])) = some 0x114 := by decide +kernel

theorem test_fetch_beyond_limit :
    faultOf (step (real 0xFFFF [0xEB, 0x10])) = some (.exception .gp none 0xFFFF) ∧
    faultOf (step { limited with eip := 0xFFFFF, mem := cells 0xFFFFF [0xEB, 0x10] }) =
      some (.exception .gp (some 0) 0xFFFFF) := by decide +kernel

theorem test_stack_segment_operand :
    faultOf (step { table 0 [0xFF, 0x6D, 0x00] with
      ss := { flat 0x10 0x92 with limit := 0xFFF }
      regs := { State.reset.regs with ebp := 0xFFB } }) = some (.exception .ss (some 0) 0x401000) := by decide +kernel

/-- Program P1, run A: JNZ not taken, then the far jump reaches the end address. -/
theorem test_program_P1 :
    ∃ s, runTo { selector := 0x3000, offset := 0 } 3
        { real 0x100 [] with
          cs := { State.reset.cs with selector := 0x1000, base := 0x10000 }
          eflags := 0x42
          mem := cells 0x10100 [0x75, 0x05, 0xEA, 0x00, 0x00, 0x00, 0x30] } = .final s ∧ s.cs.base = 0x30000 :=
  ⟨_, rfl, rfl⟩

/-! ### Witnesses: for every obligation with hypotheses, concrete data that meets them, clause by clause at a boundary -/

theorem witness_DecodeEncodeAgree :
    wellFormed .w16 (.jnleRel16 ⟨false, true, none⟩ 0xFFFF) = true ∧
    wellFormed .w32 (.jmpM16x32 ⟨false, false, some .gs⟩ (.mem32 (.sib .x8 (some .edi) .ebp (.d32 0xFFFFFFFF)))) = true := by
  decide

theorem witness_DecodedInstructionIsWellFormed :
    decode .w16 [0xFF, 0x66, 0x80, 0x90] = .ok (.jmpRm16 np (.mem16 (.based .bp (.d8 0x80)))) [0x90] := by
  decide +kernel

theorem witness_DecodedLength :
    decode .w32 [0x66, 0x67, 0x65, 0x67] = .refused .prefixNotModelled ∧
    decode .w16 [0x66, 0x67, 0x65, 0xFF, 0xAC, 0x88, 1, 2, 3, 4, 0x90] =
      .ok (.jmpM16x32 ⟨true, true, some .gs⟩ (.mem32 (.sib .x4 (some .ecx) .eax (.d32 0x04030201)))) [0x90] := by
  decide +kernel

theorem witness_DecodingIgnoresLaterBytes :
    decode .w16 [0x70, 0x01] = .ok (.joRel8 np 1) [] ∧
    decode .w16 [0xFF, 0x38] = .refused .opcodeOutOfScope := by decide +kernel

theorem witness_PrefixPolicy :
    wellFormed .w16 (.jmpM16x32 ⟨true, true, none⟩ (.reg .edi)) = true ∧
    hasMemoryOperand (.jmpM16x32 ⟨true, true, none⟩ (.reg .edi)) = false ∧
    (.jmpM16x32 ⟨true, true, none⟩ (.reg .edi) : Instr).parts.1.bytes = [0x66] ++ [0x67] ∧
    (⟨true, true, some .cs⟩ : Prefixes).opSize = true ∧ (⟨true, true, some .cs⟩ : Prefixes).addrSize = true ∧
    (⟨true, true, some .cs⟩ : Prefixes).seg ≠ none := by decide

theorem witness_OutOfScopeOpcodesRefused :
    (0x6F#8).extractLsb' 4 4 ≠ 7 ∧ 0x6F#8 ∉ [0xE3#8, 0xE9#8, 0xEA#8, 0xEB#8, 0xFF#8, 0x0F#8] ∧
    0x6F#8 ∉ [0x66#8, 0x67#8, 0x2E#8, 0x36#8, 0x3E#8, 0x26#8, 0x64#8, 0x65#8, 0xF0#8, 0xF2#8, 0xF3#8] ∧
    (0x90#8).extractLsb' 4 4 ≠ 8 ∧ (0x18#8).extractLsb' 3 3 ≠ 4 ∧ (0x18#8).extractLsb' 3 3 ≠ 5 := by decide

/-- Protected mode with the code-segment limit 1004H, EIP 1000H: a jump of two bytes may reach `d8 = 2`, not 3. -/
def atLimit : State := { prot 0x1000 [] with cs := { flat 8 0x9A with limit := 0x1004 }, eflags := 0x803 }

theorem witness_ShortConditionalJumps :
    shortRow (.joRel8 np 3) = some (np, 3, fun s => s.of) ∧
    (real 0x1000 []).of = false ∧ atLimit.of = true ∧ atLimit.mode = .prot ∧
    ¬(atLimit.mode = .prot ∧ atLimit.cs.limit < atLimit.eip + BitVec.ofNat 32 (np.count + 2) + (2 : Byte).signExtend 32) ∧
    atLimit.cs.limit < atLimit.eip + BitVec.ofNat 32 (np.count + 2) + (3 : Byte).signExtend 32 ∧
    atLimit.operandSize np = .w32 := ⟨rfl, by decide⟩

theorem witness_NearConditionalJumps16 :
    nearRow16 (.jbRel16 p66 1) = some (p66, 1, fun s => s.cf) ∧
    (real 0x1000 []).cf = false ∧ atLimit.cf = true ∧ atLimit.mode = .prot ∧
    ¬(atLimit.mode = .prot ∧
      atLimit.cs.limit < (atLimit.eip + BitVec.ofNat 32 (p66.count + 4) + (0xFFFF : Word16).signExtend 32) &&& 0x0000FFFF) ∧
    atLimit.cs.limit < (atLimit.eip + BitVec.ofNat 32 (p66.count + 4) + (0 : Word16).signExtend 32) &&& 0x0000FFFF :=
  ⟨rfl, by decide⟩

theorem witness_NearConditionalJumps32 :
    nearRow32 (.jgeRel32 np 0) = some (np, 0, fun s => s.sf == s.of) ∧
    (atLimit.sf == atLimit.of) = false ∧ ((limited).sf == (limited).of) = true ∧ limited.mode = .prot ∧
    ¬(limited.mode = .prot ∧ limited.cs.limit < limited.eip + BitVec.ofNat 32 (np.count + 6) + 0xFEFF9) ∧
    limited.cs.limit < limited.eip + BitVec.ofNat 32 (np.count + 6) + 0xFEFFA := ⟨rfl, by decide⟩

/-- ECX at the given value in `atLimit`. -/
def counted (ecx : Word32) : State := { atLimit with regs := { State.reset.regs with ecx := ecx } }

theorem witness_CountRegisterJumps :
    (counted 1).regs.ecx.toNat % 2 ^ 16 ≠ 0 ∧ (counted 0x10000).regs.ecx.toNat % 2 ^ 16 = 0 ∧
    (counted 0x10000).regs.ecx ≠ 0 ∧ (counted 0).regs.ecx = 0 ∧ (counted 0).mode = .prot ∧
    (counted 0).operandSize np = .w32 ∧
    ¬((counted 0).mode = .prot ∧
      (counted 0).cs.limit < (counted 0).eip + BitVec.ofNat 32 (np.count + 2) + (2 : Byte).signExtend 32) ∧
    (counted 0).cs.limit < (counted 0).eip + BitVec.ofNat 32 (np.count + 2) + (3 : Byte).signExtend 32 := by decide

theorem witness_ConditionalJumpsWriteOnlyEip :
    conditional (.joRel8 np 2) atLimit ≠ none ∧ ∃ t, exec (.joRel8 np 2) atLimit = .next t :=
  ⟨by decide, next_of_eipOf (t := 0x1004) (by decide)⟩

theorem witness_TakenJumpMask :
    (conditional (.joRel16 p66 0xFFFF) atLimit = some (0xFFFFFFFF, 5, .w16, true) ∧
      ∃ t, exec (.joRel16 p66 0xFFFF) atLimit = .next t) ∧
    (conditional (.joRel32 np 0xFFFFFFFE) atLimit = some (0xFFFFFFFE, 6, .w32, true) ∧
      ∃ t, exec (.joRel32 np 0xFFFFFFFE) atLimit = .next t) ∧
    (conditional (.jnoRel8 np 3) atLimit = some (3, 2, .w32, false) ∧ ∃ t, exec (.jnoRel8 np 3) atLimit = .next t) :=
  ⟨⟨by decide, next_of_eipOf (t := 0x1004) (by decide)⟩, ⟨by decide, next_of_eipOf (t := 0x1004) (by decide)⟩,
    ⟨by decide, next_of_eipOf (t := 0x1002) (by decide)⟩⟩

theorem witness_ConditionalJumpExceptions :
    conditional (.joRel8 np 3) atLimit = some (3, 2, .w32, true) ∧ atLimit.mode = .prot ∧
    atLimit.cs.limit < atLimit.eip + BitVec.ofNat 32 2 + 3 ∧
    conditional (.joRel8 np 2) atLimit = some (2, 2, .w32, true) ∧
    ¬(atLimit.cs.limit < atLimit.eip + BitVec.ofNat 32 2 + 2) := by decide

theorem witness_RelativeJumps :
    atLimit.mode = .prot ∧ atLimit.operandSize np = .w32 ∧
    ¬(atLimit.cs.limit < atLimit.eip + BitVec.ofNat 32 (np.count + 2) + (2 : Byte).signExtend 32) ∧
    atLimit.cs.limit < atLimit.eip + BitVec.ofNat 32 (np.count + 2) + (3 : Byte).signExtend 32 ∧
    ¬(atLimit.cs.limit < (atLimit.eip + BitVec.ofNat 32 (p66.count + 3) + (0 : Word16).signExtend 32) &&& 0x0000FFFF) ∧
    atLimit.cs.limit < (atLimit.eip + BitVec.ofNat 32 (p66.count + 3) + (1 : Word16).signExtend 32) &&& 0x0000FFFF ∧
    ¬(atLimit.cs.limit < atLimit.eip + BitVec.ofNat 32 (np.count + 5) + 0xFFFFFFFF) ∧
    atLimit.cs.limit < atLimit.eip + BitVec.ofNat 32 (np.count + 5) + 0 := by decide

/-- EBX at the given value in `atLimit`. -/
def pointed (ebx : Word32) : State := { atLimit with regs := { State.reset.regs with ebx := ebx } }

theorem witness_IndirectJumpRegister :
    (pointed 0xABCD1004).mode = .prot ∧
    ¬((pointed 0xABCD1004).cs.limit < (((pointed 0xABCD1004).regs.get .ebx).setWidth 16 : Word16).setWidth 32) ∧
    (pointed 0x1005).cs.limit < (((pointed 0x1005).regs.get .ebx).setWidth 16 : Word16).setWidth 32 ∧
    ¬((pointed 0x1004).cs.limit < (pointed 0x1004).regs.get .ebx) ∧
    (pointed 0x1005).cs.limit < (pointed 0x1005).regs.get .ebx := by decide

/-- `atLimit` with four bytes at 2000H. -/
def tableEntry (bytes : List Byte) : State := { atLimit with mem := cells 0x2000 bytes }

/-- The operand `[2000H]` of 32-bit addressing. -/
abbrev at2000 : RegMem := .mem32 (.direct 0x2000)

theorem witness_IndirectJumpMemory :
    memoryOperand np at2000 (tableEntry [4, 0x10, 0, 0]) = some (.ds, 0x2000) ∧
    memoryOperand np at2000 (tableEntry [5, 0x10, 0, 0]) = some (.ds, 0x2000) ∧
    segRead (tableEntry [4, 0x10, 0, 0]) 16 .ds 0x2000 2 = .ok 0x1004 ∧
    segRead (tableEntry [4, 0x10, 0, 0]) 32 .ds 0x2000 4 = .ok 0x1004 ∧
    segRead (tableEntry [5, 0x10, 0, 0]) 16 .ds 0x2000 2 = .ok 0x1005 ∧
    segRead (tableEntry [5, 0x10, 0, 0]) 32 .ds 0x2000 4 = .ok 0x1005 ∧
    (tableEntry [5, 0x10, 0, 0]).mode = .prot ∧ (tableEntry [5, 0x10, 0, 0]).cs.limit = 0x1004 :=
  ⟨rfl, rfl, ok_of_valueOf (by decide +kernel), ok_of_valueOf (by decide +kernel), ok_of_valueOf (by decide +kernel),
    ok_of_valueOf (by decide +kernel), by decide, by decide⟩

theorem witness_NearJumpsWriteOnlyEip :
    isNearJmp (.jmpRm32 np at2000) = true ∧ ∃ t, exec (.jmpRm32 np at2000) (tableEntry [4, 0x10, 0, 0]) = .next t :=
  ⟨rfl, next_of_eipOf (t := 0x1004) (by decide +kernel)⟩

theorem witness_RealModeOperandBounds :
    operandBytes (.jmpM16x16 np (.mem16 (.direct 0xFFFD))) (real 0x100 []) = some (.ds, 0xFFFD, 4) ∧
    0xFFFF < (0xFFFD : Word32).toNat + 4 - 1 ∧ (real 0x100 []).mode = .real ∧
    operandBytes (.jmpRm16 np (.mem16 (.direct 0xFFFF))) (v86 0x100 []) = some (.ds, 0xFFFF, 2) ∧
    0xFFFF < (0xFFFF : Word32).toNat + 2 - 1 ∧ (v86 0x100 []).mode = .v86 := by decide

/-- `atLimit` with SS and DS of limit FFFH, and an execute-only ES. -/
def narrow : State :=
  { atLimit with
    ss := { flat 0x10 0x92 with limit := 0xFFF }
    ds := { flat 0x10 0x92 with limit := 0xFFF }
    es := flat 0x10 0x98 }

theorem witness_ProtectedOperandChecks :
    operandBytes (.jmpM16x32 np (.mem32 (.based .ebp (.d32 0xFFB)))) narrow = some (.ss, 0xFFB, 6) ∧
    operandBytes (.jmpRm32 np (.mem32 (.direct 0xFFD))) narrow = some (.ds, 0xFFD, 4) ∧
    operandBytes (.jmpRm32 ⟨false, false, some .es⟩ (.mem32 (.direct 0))) narrow = some (.es, 0, 4) ∧
    narrow.mode = .prot ∧ (narrow.seg .ss).limit.toNat < (0xFFB : Word32).toNat + 6 - 1 ∧
    (narrow.seg .ds).limit.toNat < (0xFFD : Word32).toNat + 4 - 1 ∧ Unusable (narrow.seg .es) ∧
    Unusable (flat 0x10 0x96) ∧ Unusable { flat 0 0x92 with unusable := true } := by decide

theorem witness_SegmentReadWithinBounds :
    OperandInBounds narrow .ds 0xFFC 4 ∧ narrow.mode = .prot ∧
    OperandInBounds (real 0 []) .ds 0xFFFC 4 ∧ (real 0 []).mode ≠ .prot := by decide

/-- Paging on, in Protected and V86 mode, with a page fault of code 4 at 2001H. -/
def paged (s : State) : State := { s with cr0 := 0x80000001, pages := [(0x2001, .pageFault 4)] }

theorem witness_OperandPageFault :
    operandBytes (.jmpRm32 np at2000) (paged (prot 0x1000 [])) = some (.ds, 0x2000, 4) ∧
    (paged (prot 0x1000 [])).pg = true ∧ (paged (prot 0x1000 [])).mode = .prot ∧
    OperandInBounds (paged (prot 0x1000 [])) .ds 0x2000 4 ∧
    operandBytes (.jmpRm16 np (.mem16 (.direct 0x2000))) (paged (v86 0x100 [])) = some (.ds, 0x2000, 2) ∧
    (paged (v86 0x100 [])).mode = .v86 ∧ OperandInBounds (paged (v86 0x100 [])) .ds 0x2000 2 ∧
    (∀ j < 1, PageMap.find (paged (prot 0x1000 [])).pages (0 + 0x2000 + BitVec.ofNat 32 j) =
      .physical (0x2000 + BitVec.ofNat 32 j)) ∧
    PageMap.find (paged (prot 0x1000 [])).pages (0 + 0x2000 + BitVec.ofNat 32 1) = .pageFault 4 := by decide

theorem translates_self (s : State) (a : Word32) (h : s.pg = false) : TranslatesTo s a a := by simp [TranslatesTo, h]

/-- A read whose byte `k` is the first that memory does not hold stops there. -/
theorem undefined_stops (s : State) (addr : Word32) (n k : Nat) (hp : s.pg = false) (hk : k < n)
    (hn : Memory.read s.mem (addr + BitVec.ofNat 32 k).toNat = none)
    (hd : ∀ j < k, (Memory.read s.mem (addr + BitVec.ofNat 32 j).toNat).isSome = true) :
    ReadStops s addr n (.undefinedRead (addr + BitVec.ofNat 32 k) s.eip) :=
  ⟨k, hk, .inr ⟨_, translates_self s _ hp, hn, rfl, fun _ _ => ⟨_, translates_self s _ hp⟩, fun j hj =>
    (Option.isSome_iff_exists.1 (hd j hj)).elim fun b hb => ⟨_, b, translates_self s _ hp, hb⟩⟩⟩

/-- A read whose byte `k` is the first that page-faults stops there. -/
theorem page_stops (s : State) (addr code : Word32) (n k : Nat) (hm : s.mode = .prot) (hp : s.pg = true) (hk : k < n)
    (hf : PageMap.find s.pages (addr + BitVec.ofNat 32 k) = .pageFault code)
    (hj : ∀ j < k, PageMap.find s.pages (addr + BitVec.ofNat 32 j) = .physical (addr + BitVec.ofNat 32 j)) :
    ReadStops s addr n (.exception .pf (some code) s.eip) :=
  ⟨k, hk, .inl ⟨code, ⟨by simp [hm], hp, hf⟩, rfl, fun j h =>
    ⟨addr + BitVec.ofNat 32 j, by simp [TranslatesTo, hm, hp, hj j h]⟩⟩⟩

theorem witness_OperandUndefinedByte :
    operandBytes (.jmpRm32 np at2000) (tableEntry [1, 2, 3]) = some (.ds, 0x2000, 4) ∧
    OperandInBounds (tableEntry [1, 2, 3]) .ds 0x2000 4 ∧
    ReadStops (tableEntry [1, 2, 3]) (((tableEntry [1, 2, 3]).seg .ds).base + 0x2000) 4
      (.undefinedRead (0 + 0x2000 + BitVec.ofNat 32 3) (tableEntry [1, 2, 3]).eip) :=
  ⟨rfl, by decide, undefined_stops (tableEntry [1, 2, 3]) (0 + 0x2000) 4 3 (by decide) (by decide) (by decide)
    (by decide)⟩

theorem witness_MemReadLittleEndian :
    memRead (tableEntry [1, 2, 3, 4]) (8 * 4) 0x2000 4 = .ok 0x04030201 := ok_of_valueOf (by decide +kernel)

theorem witness_MemReadCompletes :
    ∀ k < 4, ∃ a b, TranslatesTo (tableEntry [1, 2, 3, 4]) (0x2000 + BitVec.ofNat 32 k) a ∧
      Memory.read (tableEntry [1, 2, 3, 4]).mem a.toNat = some b := by
  intro k hk
  have h : k = 0 ∨ k = 1 ∨ k = 2 ∨ k = 3 := by omega
  rcases h with rfl | rfl | rfl | rfl <;> exact ⟨_, _, translates_self _ _ (by decide), rfl⟩

theorem witness_NarrowReadIsLowHalf :
    memRead (tableEntry [1, 2, 3, 4]) 32 0x2000 4 = .ok 0x04030201 := ok_of_valueOf (by decide +kernel)

theorem witness_NoPageFaultInRealMode :
    ({ paged (real 0x2001 []) with cr0 := 0x80000000 } : State).mode = .real ∧
    ({ paged (real 0x2001 []) with cr0 := 0x80000000 } : State).pg = true := by decide

/-- The descriptors of the table that the witnesses below use. -/
theorem witness_DescriptorFields :
    descKind (leWord 64 [0x00, 0x50, 0x08, 0x00, 0x00, 0xEC, 0x00, 0x00]) = .callGate32 ∧
    descKind (leWord 64 [0x34, 0x12, 0x08, 0x00, 0x00, 0x84, 0x00, 0x00]) = .callGate16 := by decide +kernel

theorem witness_FarJumpRealOrV86 :
    HasPointer (.jmpPtr16x16 np 0x100 0x2000) (real 0x100 []) .w16 0x2000 0x100 ∧ (real 0x100 []).mode ≠ .prot ∧
    HasPointer (.jmpPtr16x32 p66 0x12345678 0) (v86 0x100 []) .w32 0 0x12345678 ∧ (v86 0x100 []).mode ≠ .prot ∧
    HasPointer (.jmpM16x16 np (.mem16 (.direct 0x500))) farPointer .w16 0x3000 0x5678 ∧ farPointer.mode ≠ .prot :=
  ⟨⟨rfl, rfl, by decide⟩, by decide, ⟨rfl, rfl, rfl⟩, by decide,
    ⟨rfl, .ds, 0x500, 0x30005678, rfl, ok_of_valueOf (by decide +kernel), by decide, by decide⟩, by decide⟩

theorem witness_FarJumpRealOrV86_six_byte_pointer :
    HasPointer (.jmpM16x32 p66 (.mem16 (.direct 0xFFFA)))
      { real 0x100 [] with mem := cells 0xFFFA [0x00, 0x02, 0x00, 0x00, 0x00, 0x50] } .w32 0x5000 0x200 :=
  ⟨rfl, .ds, 0xFFFA, 0x500000000200, rfl, ok_of_valueOf (by decide +kernel), by decide, by decide⟩

/-- A direct far jump has its pointer. -/
theorem pointer32 (s : State) (sel : Word16) (off : Word32) : HasPointer (.jmpPtr16x32 np off sel) s .w32 sel off :=
  ⟨rfl, rfl, rfl⟩

/-- A direct far jump is at the descriptor that its selector names in the table. -/
theorem at_table (cpl : BitVec 2) (sel : Word16) (off : Word32) (d : BitVec 64)
    (hm : (table cpl []).mode = .prot) (hn : isNull sel = false) (hi : inTable (table cpl []) sel = true)
    (hr : valueOf (readDescriptor (table cpl []) sel) = some d) :
    AtDescriptor (.jmpPtr16x32 np off sel) (table cpl []) .w32 sel off d :=
  ⟨pointer32 _ _ _, hm, hn, hi, ok_of_valueOf hr⟩

theorem witness_FarSelectorChecks :
    (table 0 []).mode = .prot ∧ HasPointer (.jmpPtr16x32 np 0 3) (table 0 []) .w32 3 0 ∧ isNull 3 = true ∧
    HasPointer (.jmpPtr16x32 np 0 0x88) (table 0 []) .w32 0x88 0 ∧ isNull 0x88 = false ∧
    inTable (table 0 []) 0x88 = false ∧ isNull 4 = false ∧ inTable (table 0 []) 4 = false ∧
    AtDescriptor (.jmpPtr16x32 np 0 0x10) (table 0 []) .w32 0x10 0 0x00CF92000000FFFF ∧
    descKind 0x00CF92000000FFFF = .data :=
  ⟨by decide, pointer32 _ _ _, by decide, pointer32 _ _ _, by decide, by decide, by decide, by decide,
    at_table 0 0x10 0 _ (by decide) (by decide) (by decide) (by decide +kernel), by decide⟩

/-- The table of `table 0` with its second descriptor on a page that faults from its third byte on, and with no memory
at all. -/
theorem witness_FarSelectorChecks_stopped_read :
    HasPointer (.jmpPtr16x32 np 0 8) { table 0 [] with cr0 := 0x80000001, pages := [(0x100A, .pageFault 4)] } .w32 8 0 ∧
    inTable { table 0 [] with cr0 := 0x80000001, pages := [(0x100A, .pageFault 4)] } 8 = true ∧
    ReadStops { table 0 [] with cr0 := 0x80000001, pages := [(0x100A, .pageFault 4)] } (0x1000 + 8) 8
      (.exception .pf (some 4) 0x401000) ∧
    descriptorAddress (table 0 []) 8 = 0x1000 + 8 ∧ isNull 8 = false ∧ inTable { table 0 [] with mem := [] } 8 = true ∧
    ReadStops { table 0 [] with mem := [] } (0x1000 + 8) 8 (.undefinedRead (0x1000 + 8 + 0) 0x401000) :=
  ⟨pointer32 _ _ _, by decide, page_stops _ _ _ _ 2 (by decide) (by decide) (by decide) (by decide) (by decide),
    by decide, by decide, by decide, undefined_stops _ _ _ 0 (by decide) (by decide) (by decide) (by decide)⟩

theorem witness_FarSelectorChecks_other_kind : descKind 0x0000820000000000 = .other := by decide

theorem witness_FarConformingSegment :
    AtDescriptor (.jmpPtr16x32 np 0 0x80) (table 0 []) .w32 0x80 0 0x00CFFE000000FFFF ∧
    AtDescriptor (.jmpPtr16x32 np 0xFFFFFFFF 0x80) (table 3 []) .w32 0x80 0xFFFFFFFF 0x00CFFE000000FFFF ∧
    descKind 0x00CFFE000000FFFF = .conformingCode ∧
    (table 0 []).cpl < descDpl 0x00CFFE000000FFFF ∧ descDpl 0x00CFFE000000FFFF ≤ (table 3 []).cpl ∧
    descPresent 0x00CFFE000000FFFF = true ∧ (0xFFFFFFFF : Word32) ≤ descLimit 0x00CFFE000000FFFF :=
  ⟨at_table 0 0x80 0 _ (by decide) (by decide) (by decide) (by decide +kernel),
    at_table 3 0x80 _ _ (by decide) (by decide) (by decide) (by decide +kernel), by decide, by decide, by decide,
    by decide, by decide⟩

/-- Protected mode at privilege 3 with one descriptor at index 1 of the table, and one at index 2. -/
def pair (a b : BitVec 64) : State :=
  { table 3 [] with mem := cells 0x1008 (leBytes32 (a.setWidth 32) ++ leBytes32 ((a >>> 32).setWidth 32) ++
      leBytes32 (b.setWidth 32) ++ leBytes32 ((b >>> 32).setWidth 32)) }

theorem at_pair (a b : BitVec 64) (sel : Word16) (off : Word32) (d : BitVec 64)
    (hm : (pair a b).mode = .prot) (hn : isNull sel = false) (hi : inTable (pair a b) sel = true)
    (hr : valueOf (readDescriptor (pair a b) sel) = some d) :
    AtDescriptor (.jmpPtr16x32 np off sel) (pair a b) .w32 sel off d :=
  ⟨pointer32 _ _ _, hm, hn, hi, ok_of_valueOf hr⟩

/-- A conforming segment that is not present, and one of limit FFFFH with an offset just beyond it. -/
theorem witness_FarConformingSegment_absent_and_limit :
    AtDescriptor (.jmpPtr16x32 np 0 8) (pair 0x00001E000000FFFF 0x00009E000000FFFF) .w32 8 0 0x00001E000000FFFF ∧
    descKind 0x00001E000000FFFF = .conformingCode ∧ descDpl 0x00001E000000FFFF ≤ (3 : BitVec 2) ∧
    descPresent 0x00001E000000FFFF = false ∧
    AtDescriptor (.jmpPtr16x32 np 0x10000 0x10) (pair 0x00001E000000FFFF 0x00009E000000FFFF) .w32 0x10 0x10000
      0x00009E000000FFFF ∧
    descKind 0x00009E000000FFFF = .conformingCode ∧ descPresent 0x00009E000000FFFF = true ∧
    descLimit 0x00009E000000FFFF < (0x10000 : Word32) :=
  ⟨at_pair _ _ _ _ _ (by decide) (by decide) (by decide) (by decide +kernel), by decide, by decide, by decide,
    at_pair _ _ _ _ _ (by decide) (by decide) (by decide) (by decide +kernel), by decide, by decide, by decide⟩

theorem witness_FarNonconformingSegment :
    AtDescriptor (.jmpPtr16x32 np 0 0x0B) (table 0 []) .w32 0x0B 0 0x00CF9A000000FFFF ∧
    AtDescriptor (.jmpPtr16x32 np 0 0x0B) (table 3 []) .w32 0x0B 0 0x00CF9A000000FFFF ∧
    AtDescriptor (.jmpPtr16x32 np 0 0x38) (table 0 []) .w32 0x38 0 0x00CF1A000000FFFF ∧
    AtDescriptor (.jmpPtr16x32 np 0x10000 0x33) (table 3 []) .w32 0x33 0x10000 0x0000FA020000FFFF ∧
    AtDescriptor (.jmpPtr16x32 np 0xFFFF 0x33) (table 3 []) .w32 0x33 0xFFFF 0x0000FA020000FFFF :=
  ⟨at_table 0 _ _ _ (by decide) (by decide) (by decide) (by decide +kernel),
    at_table 3 _ _ _ (by decide) (by decide) (by decide) (by decide +kernel),
    at_table 0 _ _ _ (by decide) (by decide) (by decide) (by decide +kernel),
    at_table 3 _ _ _ (by decide) (by decide) (by decide) (by decide +kernel),
    at_table 3 _ _ _ (by decide) (by decide) (by decide) (by decide +kernel)⟩

theorem witness_FarNonconformingSegment_clauses :
    descKind 0x00CF9A000000FFFF = .nonconformingCode ∧ descKind 0x00CF1A000000FFFF = .nonconformingCode ∧
    descKind 0x0000FA020000FFFF = .nonconformingCode ∧
    (table 0 []).cpl < selRpl 0x0B ∧ selRpl 0x0B ≤ (table 3 []).cpl ∧ descDpl 0x00CF9A000000FFFF ≠ (table 3 []).cpl ∧
    selRpl 0x38 ≤ (table 0 []).cpl ∧ descDpl 0x00CF1A000000FFFF = (table 0 []).cpl ∧
    descPresent 0x00CF1A000000FFFF = false ∧ selRpl 0x33 ≤ (table 3 []).cpl ∧
    descDpl 0x0000FA020000FFFF = (table 3 []).cpl ∧ descPresent 0x0000FA020000FFFF = true ∧
    descLimit 0x0000FA020000FFFF < (0x10000 : Word32) ∧ (0xFFFF : Word32) ≤ descLimit 0x0000FA020000FFFF := by decide

theorem witness_CallGateChecks :
    AtDescriptor (.jmpPtr16x32 np 0 0x53) (table 3 []) .w32 0x53 0 0x0000840000081234 ∧
    AtDescriptor (.jmpPtr16x32 np 0 0x51) (table 0 []) .w32 0x51 0 0x0000840000081234 ∧
    AtDescriptor (.jmpPtr16x32 np 0 0x58) (table 0 []) .w32 0x58 0 0x00008C0000000000 ∧
    AtDescriptor (.jmpPtr16x32 np 0 8) (pair 0x00006C0000080000 0x0000EC0000880000) .w32 8 0 0x00006C0000080000 ∧
    AtDescriptor (.jmpPtr16x32 np 0 0x10) (pair 0x00006C0000080000 0x0000EC0000880000) .w32 0x10 0
      0x0000EC0000880000 :=
  ⟨at_table 3 _ _ _ (by decide) (by decide) (by decide) (by decide +kernel),
    at_table 0 _ _ _ (by decide) (by decide) (by decide) (by decide +kernel),
    at_table 0 _ _ _ (by decide) (by decide) (by decide) (by decide +kernel),
    at_pair _ _ _ _ _ (by decide) (by decide) (by decide) (by decide +kernel),
    at_pair _ _ _ _ _ (by decide) (by decide) (by decide) (by decide +kernel)⟩

theorem witness_CallGateChecks_clauses :
    descKind 0x0000840000081234 = .callGate16 ∧ descKind 0x00008C0000000000 = .callGate32 ∧
    descKind 0x00006C0000080000 = .callGate32 ∧ descKind 0x0000EC0000880000 = .callGate32 ∧
    descDpl 0x0000840000081234 < (table 3 []).cpl ∧
    (table 0 []).cpl ≤ descDpl 0x0000840000081234 ∧ descDpl 0x0000840000081234 < selRpl 0x51 ∧
    (3 : BitVec 2) ≤ descDpl 0x00006C0000080000 ∧ selRpl 8 ≤ descDpl 0x00006C0000080000 ∧
    descPresent 0x00006C0000080000 = false ∧
    (table 0 []).cpl ≤ descDpl 0x00008C0000000000 ∧ selRpl 0x58 ≤ descDpl 0x00008C0000000000 ∧
    descPresent 0x00008C0000000000 = true ∧ isNull (gateSelector 0x00008C0000000000) = true ∧
    (3 : BitVec 2) ≤ descDpl 0x0000EC0000880000 ∧ selRpl 0x10 ≤ descDpl 0x0000EC0000880000 ∧
    descPresent 0x0000EC0000880000 = true ∧ isNull (gateSelector 0x0000EC0000880000) = false ∧
    inTable (pair 0x00006C0000080000 0x0000EC0000880000) (gateSelector 0x0000EC0000880000) = false := by
  decide +kernel

/-- `pair`, with the second descriptor's third byte on a page that faults. -/
def pairPaged (a : BitVec 64) : State := { pair a 0 with cr0 := 0x80000001, pages := [(0x1012, .pageFault 4)] }

/-- `pair` without the second descriptor. -/
def single (a : BitVec 64) : State :=
  { pair a 0 with mem := cells 0x1008 (leBytes32 (a.setWidth 32) ++ leBytes32 ((a >>> 32).setWidth 32)) }

theorem paged_second (a : BitVec 64) :
    ReadStops (pairPaged a) (0x1000 + 0x10) 8 (.exception .pf (some 4) 0x401000) :=
  page_stops (pairPaged a) _ _ _ 2 (show (paged (table 3 [])).mode = .prot by decide)
    (show (paged (table 3 [])).pg = true by decide) (by decide) (by rfl)
    (fun j hj => by have h : j = 0 ∨ j = 1 := by omega
                    rcases h with rfl | rfl <;> rfl)

theorem missing_second (a : BitVec 64) :
    ReadStops (single a) (0x1000 + 0x10) 8 (.undefinedRead (0x1000 + 0x10 + 0) 0x401000) :=
  undefined_stops (single a) _ _ 0 (show (table 3 []).pg = false by decide) (by decide) (by rfl)
    (fun j hj => absurd hj (by omega))

/-- A call gate, DPL 3, present, to 0010H, whose descriptor cannot be read. -/
theorem witness_CallGateChecks_stopped_read :
    AtDescriptor (.jmpPtr16x32 np 0 8) (pairPaged 0x0000EC0000105000) .w32 8 0 0x0000EC0000105000 ∧
    AtDescriptor (.jmpPtr16x32 np 0 8) (single 0x0000EC0000105000) .w32 8 0 0x0000EC0000105000 ∧
    gateSelector 0x0000EC0000105000 = 0x10 ∧ descriptorAddress (single 0x0000EC0000105000) 0x10 = 0x1000 + 0x10 ∧
    inTable (single 0x0000EC0000105000) 0x10 = true ∧ (single 0x0000EC0000105000).cpl ≤ descDpl 0x0000EC0000105000 ∧
    selRpl 8 ≤ descDpl 0x0000EC0000105000 ∧ descPresent 0x0000EC0000105000 = true ∧
    ReadStops (pairPaged 0x0000EC0000105000) (0x1000 + 0x10) 8 (.exception .pf (some 4) 0x401000) ∧
    ReadStops (single 0x0000EC0000105000) (0x1000 + 0x10) 8 (.undefinedRead (0x1000 + 0x10 + 0) 0x401000) :=
  ⟨⟨pointer32 _ _ _, by decide, by decide, by decide, ok_of_valueOf (by decide +kernel)⟩,
    ⟨pointer32 _ _ _, by decide, by decide, by decide, ok_of_valueOf (by decide +kernel)⟩, by decide, by decide,
    by decide, by decide, by decide, by decide, paged_second _, missing_second _⟩

/-- A call gate at privilege 3 to offset 5000H of selector 0010H, beside a code segment descriptor `c` there. -/
theorem at_gate (g c : BitVec 64) (hm : (pair g c).mode = .prot) (hi : inTable (pair g c) 8 = true)
    (hr : valueOf (readDescriptor (pair g c) 8) = some g) :
    AtDescriptor (.jmpPtr16x32 np 0 8) (pair g c) .w32 8 0 g :=
  at_pair g c 8 0 g hm (by decide) hi hr

/-- The gate of the witnesses: 386 call gate, DPL 3, present, to 0010H:00005000H; and its 286 form. -/
theorem witness_CallGateSegment_gate :
    descKind 0x0000EC0000105000 = .callGate32 ∧ descKind 0x0000E40000105000 = .callGate16 ∧
    (3 : BitVec 2) ≤ descDpl 0x0000EC0000105000 ∧ selRpl 8 ≤ descDpl 0x0000EC0000105000 ∧
    descPresent 0x0000EC0000105000 = true ∧ isNull (gateSelector 0x0000EC0000105000) = false ∧
    (3 : BitVec 2) ≤ descDpl 0x0000E40000105000 ∧ selRpl 8 ≤ descDpl 0x0000E40000105000 ∧
    descPresent 0x0000E40000105000 = true ∧ isNull (gateSelector 0x0000E40000105000) = false ∧
    gateSelector 0x0000EC0000105000 = 0x10 ∧ gateOffset 0x0000EC0000105000 = 0x5000 ∧
    gateSelector 0x0000E40000105000 = 0x10 := by decide

/-- Its clauses, in order: a data segment; a code segment of another DPL; an absent one; a gate of the other size; a
limit of 4FFFH; a limit of 5000H. -/
theorem witness_CallGateSegment :
    AtDescriptor (.jmpPtr16x32 np 0 8) (pair 0x0000EC0000105000 0x0000F20000005000) .w32 8 0 0x0000EC0000105000 ∧
    readDescriptor (pair 0x0000EC0000105000 0x0000F20000005000) 0x10 = .ok 0x0000F20000005000 ∧
    AtDescriptor (.jmpPtr16x32 np 0 8) (pair 0x0000EC0000105000 0x00007A0000005000) .w32 8 0 0x0000EC0000105000 ∧
    readDescriptor (pair 0x0000EC0000105000 0x00007A0000005000) 0x10 = .ok 0x00007A0000005000 ∧
    AtDescriptor (.jmpPtr16x32 np 0 8) (pair 0x0000E40000105000 0x0000FA0000005000) .w32 8 0 0x0000E40000105000 ∧
    readDescriptor (pair 0x0000E40000105000 0x0000FA0000005000) 0x10 = .ok 0x0000FA0000005000 ∧
    AtDescriptor (.jmpPtr16x32 np 0 8) (pair 0x0000EC0000105000 0x00009E0000004FFF) .w32 8 0 0x0000EC0000105000 ∧
    readDescriptor (pair 0x0000EC0000105000 0x00009E0000004FFF) 0x10 = .ok 0x00009E0000004FFF ∧
    AtDescriptor (.jmpPtr16x32 np 0 8) (pair 0x0000EC0000105000 0x0000FA0000005000) .w32 8 0 0x0000EC0000105000 ∧
    readDescriptor (pair 0x0000EC0000105000 0x0000FA0000005000) 0x10 = .ok 0x0000FA0000005000 :=
  ⟨at_gate _ _ (by decide) (by decide) (by decide +kernel), ok_of_valueOf (by decide +kernel),
    at_gate _ _ (by decide) (by decide) (by decide +kernel), ok_of_valueOf (by decide +kernel),
    at_gate _ _ (by decide) (by decide) (by decide +kernel), ok_of_valueOf (by decide +kernel),
    at_gate _ _ (by decide) (by decide) (by decide +kernel), ok_of_valueOf (by decide +kernel),
    at_gate _ _ (by decide) (by decide) (by decide +kernel), ok_of_valueOf (by decide +kernel)⟩

theorem witness_CallGateSegment_clauses :
    descKind 0x0000F20000005000 = .data ∧
    descKind 0x00007A0000005000 = .nonconformingCode ∧ descDpl 0x00007A0000005000 = 3 ∧
    descPresent 0x00007A0000005000 = false ∧
    descKind 0x0000FA0000005000 = .nonconformingCode ∧ descDpl 0x0000FA0000005000 = 3 ∧
    descPresent 0x0000FA0000005000 = true ∧
    descKind 0x00009E0000004FFF = .conformingCode ∧ descDpl 0x00009E0000004FFF ≤ (3 : BitVec 2) ∧
    descPresent 0x00009E0000004FFF = true ∧ descLimit 0x00009E0000004FFF < gateOffset 0x0000EC0000105000 ∧
    gateOffset 0x0000EC0000105000 ≤ descLimit 0x0000FA0000005000 ∧
    inTable (pair 0x0000EC0000105000 0x0000FA0000005000) 0x10 = true := by decide +kernel

theorem witness_TaskGateChecks :
    AtDescriptor (.jmpPtr16x32 np 0 0x43) (table 3 []) .w32 0x43 0 0x0000850000280000 ∧
    AtDescriptor (.jmpPtr16x32 np 0 0x41) (table 0 []) .w32 0x41 0 0x0000850000280000 ∧
    AtDescriptor (.jmpPtr16x32 np 0 0x68) (table 0 []) .w32 0x68 0 0x00008500002C0000 ∧
    AtDescriptor (.jmpPtr16x32 np 0 0x70) (table 0 []) .w32 0x70 0 0x0000850000480000 ∧
    AtDescriptor (.jmpPtr16x32 np 0 0x40) (table 0 []) .w32 0x40 0 0x0000850000280000 ∧
    AtDescriptor (.jmpPtr16x32 np 0 8) (pair 0x0000650000100000 0) .w32 8 0 0x0000650000100000 ∧
    AtDescriptor (.jmpPtr16x32 np 0 8) (pair 0x0000E50000100000 0x0000090000000067) .w32 8 0 0x0000E50000100000 ∧
    AtDescriptor (.jmpPtr16x32 np 0 8) (pair 0x0000E50000880000 0) .w32 8 0 0x0000E50000880000 :=
  ⟨at_table 3 _ _ _ (by decide) (by decide) (by decide) (by decide +kernel),
    at_table 0 _ _ _ (by decide) (by decide) (by decide) (by decide +kernel),
    at_table 0 _ _ _ (by decide) (by decide) (by decide) (by decide +kernel),
    at_table 0 _ _ _ (by decide) (by decide) (by decide) (by decide +kernel),
    at_table 0 _ _ _ (by decide) (by decide) (by decide) (by decide +kernel),
    at_pair _ _ _ _ _ (by decide) (by decide) (by decide) (by decide +kernel),
    at_pair _ _ _ _ _ (by decide) (by decide) (by decide) (by decide +kernel),
    at_pair _ _ _ _ _ (by decide) (by decide) (by decide) (by decide +kernel)⟩

theorem witness_TaskGateChecks_clauses :
    descKind 0x0000850000280000 = .taskGate ∧ descKind 0x0000E50000100000 = .taskGate ∧
    descKind 0x0000650000100000 = .taskGate ∧
    descDpl 0x0000850000280000 < (table 3 []).cpl ∧ descDpl 0x0000850000280000 < selRpl 0x41 ∧
    (3 : BitVec 2) ≤ descDpl 0x0000650000100000 ∧ descPresent 0x0000650000100000 = false ∧
    selLocal (gateSelector 0x00008500002C0000) = true ∧
    inTable (pair 0x0000E50000880000 0) (gateSelector 0x0000E50000880000) = false ∧
    valueOf (readDescriptor (table 0 []) (gateSelector 0x0000850000480000)) = some 0x00008B0040000067 ∧
    descKind 0x00008B0040000067 = .busyTss32 ∧
    valueOf (readDescriptor (pair 0x0000E50000100000 0x0000090000000067) (gateSelector 0x0000E50000100000)) =
      some 0x0000090000000067 ∧
    descKind 0x0000090000000067 = .availTss32 ∧ descPresent 0x0000090000000067 = false ∧
    valueOf (readDescriptor (table 0 []) (gateSelector 0x0000850000280000)) = some 0x0000890030000067 ∧
    descKind 0x0000890030000067 = .availTss32 ∧ descPresent 0x0000890030000067 = true := by decide +kernel

/-- A task gate, DPL 3, present, to 0010H, whose descriptor cannot be read. -/
theorem witness_TaskGateChecks_stopped_read :
    AtDescriptor (.jmpPtr16x32 np 0 8) (pairPaged 0x0000E50000100000) .w32 8 0 0x0000E50000100000 ∧
    AtDescriptor (.jmpPtr16x32 np 0 8) (single 0x0000E50000100000) .w32 8 0 0x0000E50000100000 ∧
    descKind 0x0000E50000100000 = .taskGate ∧ gateSelector 0x0000E50000100000 = 0x10 ∧ selLocal 0x10 = false ∧
    inTable (single 0x0000E50000100000) 0x10 = true ∧ descPresent 0x0000E50000100000 = true ∧
    ReadStops (pairPaged 0x0000E50000100000) (0x1000 + 0x10) 8 (.exception .pf (some 4) 0x401000) ∧
    ReadStops (single 0x0000E50000100000) (0x1000 + 0x10) 8 (.undefinedRead (0x1000 + 0x10 + 0) 0x401000) :=
  ⟨⟨pointer32 _ _ _, by decide, by decide, by decide, ok_of_valueOf (by decide +kernel)⟩,
    ⟨pointer32 _ _ _, by decide, by decide, by decide, ok_of_valueOf (by decide +kernel)⟩, by decide, by decide,
    by decide, by decide, by decide, paged_second _, missing_second _⟩

theorem witness_TaskStateSegmentChecks :
    AtDescriptor (.jmpPtr16x32 np 0 0x2B) (table 3 []) .w32 0x2B 0 0x0000890030000067 ∧
    AtDescriptor (.jmpPtr16x32 np 0 0x29) (table 0 []) .w32 0x29 0 0x0000890030000067 ∧
    AtDescriptor (.jmpPtr16x32 np 0 0x48) (table 0 []) .w32 0x48 0 0x00008B0040000067 ∧
    AtDescriptor (.jmpPtr16x32 np 0 8) (pair 0x0000690000000067 0) .w32 8 0 0x0000690000000067 ∧
    AtDescriptor (.jmpPtr16x32 np 0 0x28) (table 0 []) .w32 0x28 0 0x0000890030000067 :=
  ⟨at_table 3 _ _ _ (by decide) (by decide) (by decide) (by decide +kernel),
    at_table 0 _ _ _ (by decide) (by decide) (by decide) (by decide +kernel),
    at_table 0 _ _ _ (by decide) (by decide) (by decide) (by decide +kernel),
    at_pair _ _ _ _ _ (by decide) (by decide) (by decide) (by decide +kernel),
    at_table 0 _ _ _ (by decide) (by decide) (by decide) (by decide +kernel)⟩

theorem witness_TaskStateSegmentChecks_clauses :
    descDpl 0x0000890030000067 < (table 3 []).cpl ∧ descDpl 0x0000890030000067 < selRpl 0x29 ∧
    descKind 0x00008B0040000067 = .busyTss32 ∧ (table 0 []).cpl ≤ descDpl 0x00008B0040000067 ∧
    selRpl 0x48 ≤ descDpl 0x00008B0040000067 ∧
    descKind 0x0000690000000067 = .availTss32 ∧ (3 : BitVec 2) ≤ descDpl 0x0000690000000067 ∧
    selRpl 8 ≤ descDpl 0x0000690000000067 ∧ descPresent 0x0000690000000067 = false ∧
    descKind 0x0000890030000067 = .availTss32 ∧ descPresent 0x0000890030000067 = true := by decide

theorem witness_FarJumpsWriteNoFlag :
    isFarJmp (.jmpPtr16x32 np 0x1000 0x18) = true ∧
    ∃ t, exec (.jmpPtr16x32 np 0x1000 0x18) (table 3 []) = .next t :=
  ⟨rfl, next_of_eipOf (t := 0x1000) (by decide +kernel)⟩

theorem witness_FarJumpFrame :
    (∃ t, exec (.jmpPtr16x32 np 0x1000 0x18) (table 3 []) = .next t) ∧ (table 3 []).mode = .prot ∧
    (∃ t, exec (.jmpPtr16x16 np 0x100 0x2001) (real 0 []) = .next t) ∧ (real 0 []).mode ≠ .prot ∧
    HasPointer (.jmpPtr16x16 np 0x100 0x2001) (real 0 []) .w16 0x2001 0x100 :=
  ⟨next_of_eipOf (t := 0x1000) (by decide +kernel), by decide, next_of_eipOf (t := 0x100) (by decide +kernel), by decide,
    ⟨rfl, rfl, by decide⟩⟩

theorem witness_StepRunsDecodedInstruction :
    decode (real 0x100 [0x70, 5]).defaultSize (fetchBytes (real 0x100 [0x70, 5]) Config.maxInsnLen 0).1 =
      .ok (.joRel8 np 5) [] := by decide +kernel

/-- The bytes of JLE stand at the end of the segment and of the defined memory. -/
theorem witness_StepRunsEncodedBytes :
    wellFormed (real 0xFFFE [0x7E, 5]).defaultSize (.jngRel8 np 5) = true ∧
    encode (.jngRel8 np 5) = [0x7E, 5] ∧ Fetches (real 0xFFFE [0x7E, 5]) 0 0x7E ∧ Fetches (real 0xFFFE [0x7E, 5]) 1 5 :=
  ⟨by decide, by decide, ⟨by decide, _, translates_self _ _ (by decide), by decide⟩,
    ⟨by decide, _, translates_self _ _ (by decide), by decide⟩⟩

theorem witness_StepChangesOnlyEipAndCs :
    (∃ t, step (table 3 [0xEA, 0x10, 0, 0, 0, 0x33, 0]) = .next t) ∧
    csOf (step (table 3 [0xEA, 0x10, 0, 0, 0, 0x33, 0])) = some segment33 ∧ segment33 ≠ (table 3 []).cs :=
  ⟨next_of_eipOf (t := 0x10) (by decide +kernel), by decide +kernel, by decide⟩

theorem stateOk_table : StateOk (table 3 [0xEA, 0x10, 0, 0, 0, 0x33, 0]) :=
  ⟨by decide +kernel, by decide, by decide, by decide, by decide⟩

theorem witness_StateOkKept :
    StateOk (table 3 [0xEA, 0x10, 0, 0, 0, 0x33, 0]) ∧ ∃ t, step (table 3 [0xEA, 0x10, 0, 0, 0, 0x33, 0]) = .next t :=
  ⟨stateOk_table, next_of_eipOf (t := 0x10) (by decide +kernel)⟩

/-- A run whose first step reaches the end address meets no undefined byte. -/
theorem bytesMapped_of_step (e : EndAddress) (s t : State) (hs : atEnd e s = false) (h : step s = .next t)
    (ht : atEnd e t = true) : BytesMapped e s := by
  intro n a pc
  cases n with
  | zero => simp [runTo, hs]
  | succ n => cases n <;> simp [runTo, hs, h, ht]

theorem next_of_cs_eip {o : Out} {t : Word32} {c : Segment} (h : eipOf o = some t) (hc : csOf o = some c) :
    ∃ s, o = .next s ∧ s.eip = t ∧ s.cs = c := by
  cases o with
  | next s => exact ⟨s, rfl, Option.some.inj h, Option.some.inj hc⟩
  | fault f => cases h
  | refused q => cases h

/-- The state, not at its end, meets the premises and takes the step to the end address. -/
theorem launches (e : EndAddress) (s : State) (c : Segment) (hc : CsPremises s) (hf : s.tf = false)
    (hs : atEnd e s = false) (h1 : eipOf (step s) = some e.offset) (h2 : csOf (step s) = some c)
    (h3 : c.selector = e.selector) : LaunchPremises e s ∧ ∃ t, step s = .next t := by
  obtain ⟨t, ht, h4, rfl⟩ := next_of_cs_eip h1 h2
  exact ⟨⟨hc, hf, bytesMapped_of_step e s t hs ht (by simp [atEnd, h3, h4])⟩, t, ht⟩

theorem witness_LaunchPremisesKept :
    (atEnd ⟨0x33, 0x10⟩ (table 3 [0xEA, 0x10, 0, 0, 0, 0x33, 0]) = false ∧
      LaunchPremises ⟨0x33, 0x10⟩ (table 3 [0xEA, 0x10, 0, 0, 0, 0x33, 0]) ∧
      ∃ t, step (table 3 [0xEA, 0x10, 0, 0, 0, 0x33, 0]) = .next t) ∧
    atEnd ⟨0, 2⟩ (real 0 [0xEB, 0]) = false ∧ LaunchPremises ⟨0, 2⟩ (real 0 [0xEB, 0]) ∧
      ∃ t, step (real 0 [0xEB, 0]) = .next t :=
  ⟨⟨by decide, launches _ _ segment33
      ⟨by decide, by decide, 0x00CF9E000000FFFF, ok_of_valueOf (by decide +kernel), by decide, by decide, by decide,
        by decide, by decide⟩ (by decide) (by decide) (by decide +kernel) (by decide +kernel) (by decide)⟩,
    by decide, launches _ _ (real 0 []).cs ⟨by decide, by decide, by decide⟩ (by decide) (by decide)
      (by decide +kernel) (by decide +kernel) (by decide)⟩

/-- R44's base is not 16 times R44's selector, and no byte of a program is in memory (log entry 38). -/
theorem test_reset_is_no_launch_state : ¬ CsPremises State.reset ∧ ∀ e, ¬ LaunchPremises e State.reset := by
  have h : ¬ CsPremises State.reset := fun h => absurd h.1 (by decide)
  exact ⟨h, fun _ hl => h hl.cs⟩

/-- Every kind of stop happens: each test of a fault or a refusal above is one; a page fault and an undefined read here. -/
theorem witness_StopsNameTheirInstruction :
    faultOf (step { paged (prot 0x2001 []) with pages := [(0x2001, .pageFault 4)] }) =
      some (.exception .pf (some 4) 0x2001) ∧
    faultOf (step (prot 0x2001 [])) = some (.undefinedRead 0x2001 0x2001) ∧
    refusalOf (jumpTo 0 0x50 0) = some (.callGateSizeMismatch 0x401000) := by decide +kernel

theorem witness_ExceptionCodes :
    faultOf (step (paged (prot 0x2001 []))) = some (.exception .pf (some 4) 0x2001) ∧
    faultOf (step (real 0x100 [0xFF, 0xE8])) = some (.exception .ud none 0x100) ∧
    faultOf (jumpTo 0 0x38 0x10) = some (.exception .np (some 0x38) 0x401000) ∧
    faultOf (step (real 0x10000 [])) = some (.exception .gp none 0x10000) ∧
    faultOf (step (v86 0x10000 [])) = some (.exception .gp (some 0) 0x10000) ∧
    (∃ f, faultOf (step { table 0 [0xFF, 0x6D, 0x00] with ss := { flat 0x10 0x92 with limit := 4 } }) = some f ∧
      f = .exception .ss (some 0) 0x401000) := ⟨by decide +kernel, by decide +kernel,
  by decide +kernel, by decide +kernel, by decide +kernel, _, rfl, by decide +kernel⟩

theorem needsByte_zero (s : State) : NeedsByte s 0 := ⟨by decide, [], rfl, fun _ _ h => by simp at h, rfl⟩

/-- A state at whose EIP stands the byte EB alone needs the byte after it. -/
theorem needsByte_one (s : State) (h : Fetches s 0 0xEB) : NeedsByte s 1 :=
  ⟨by decide, [0xEB], rfl, fun j b hj => by
    cases j with
    | zero => exact Option.some.inj hj ▸ h
    | succ j => simp at hj, by cases s.defaultSize <;> decide +kernel⟩

theorem witness_FetchBeyondLimit :
    NeedsByte (real 0xFFFF [0xEB]) 1 ∧
    (real 0xFFFF [0xEB]).cs.limit < (real 0xFFFF [0xEB]).eip + BitVec.ofNat 32 1 ∧
    (real 0xFFFF [0xEB]).mode = .real ∧ NeedsByte (v86 0x10000 []) 0 ∧
    (v86 0x10000 []).cs.limit < (v86 0x10000 []).eip + BitVec.ofNat 32 0 ∧ (v86 0x10000 []).mode ≠ .real :=
  ⟨needsByte_one _ ⟨by decide, _, translates_self _ _ (by decide), by decide⟩, by decide, by decide,
    needsByte_zero _, by decide, by decide⟩

theorem witness_FetchStopsAtByte :
    NeedsByte (real 0xFFFE [0xEB]) 1 ∧
    (real 0xFFFE [0xEB]).eip + BitVec.ofNat 32 1 ≤ (real 0xFFFE [0xEB]).cs.limit ∧
    TranslatesTo (real 0xFFFE [0xEB]) 0xFFFF 0xFFFF ∧ Memory.read (real 0xFFFE [0xEB]).mem 0xFFFF = none ∧
    NeedsByte (paged (prot 0x2001 [])) 0 ∧ TranslateFaults (paged (prot 0x2001 [])) 0x2001 4 :=
  ⟨needsByte_one _ ⟨by decide, _, translates_self _ _ (by decide), by decide⟩, by decide, by decide, by decide,
    needsByte_zero _, by decide⟩

/-- From the reset state, whose EIP leaves the ten bytes just within the limit: FFF0H + 9 ≤ FFFFH. -/
theorem witness_PlacedInstructionRuns :
    State.reset.mode = .real ∧ State.reset.eip.toNat + 9 ≤ State.reset.cs.limit.toNat ∧
    decode State.reset.defaultSize (natBytes (0x1234E9 % 2 ^ 24) 10 0) =
      .ok (.jmpRel16 np 0x1234) [0, 0, 0, 0, 0, 0, 0] := by decide +kernel

theorem witness_RunEndsAtEndAddress :
    (real 0x100 []).cs.selector = 0 ∧ (real 0x100 []).eip = 0x100 ∧
    ∃ t, runTo { selector := 0, offset := 0x107 } 1 { real 0x100 [0x70, 5] with eflags := 0x802 } = .final t :=
  ⟨rfl, rfl, _, rfl⟩

end Sys2Proof.Tests
end

/-! PROOFS. Two general facts about the decoder, used by the statements about a step: it does not look past the
instruction or the refusal it answers (R80), and it reads the encoding of a well-formed instruction back (R80 to
R96). -/

namespace Sys2Proof

/-! ### The decoder does not look past what it answers -/

/-- What the decoder says of a stream when `more` bytes are put behind it: the same, `more` being left over. -/
def Decoded.extend (more : List Byte) : Decoded → Decoded
  | .ok i rest => .ok i (rest ++ more)
  | .truncated => .truncated
  | .refused r => .refused r

@[simp] theorem Decoded.extend_ok (more : List Byte) (i : Instr) (rest : List Byte) :
    (Decoded.ok i rest).extend more = .ok i (rest ++ more) := rfl
@[simp] theorem Decoded.extend_refused (more : List Byte) (r : DecodeRefusal) :
    (Decoded.refused r).extend more = .refused r := rfl

/-- A reader of the stream that has what it needs reads the same with more bytes behind. -/
def ReaderStable {α : Type} (f : List Byte → Option (α × List Byte)) : Prop :=
  ∀ bs more v rest, f bs = some (v, rest) → f (bs ++ more) = some (v, rest ++ more)

/-- A decoder that has what it needs, for an instruction or for a refusal, answers the same with more bytes behind. -/
def DecoderStable (f : List Byte → Decoded) : Prop :=
  ∀ bs more, f bs ≠ .truncated → f (bs ++ more) = (f bs).extend more

theorem ReaderStable.of_cons {α : Type} {f : List Byte → Option (α × List Byte)} (hnil : f [] = none)
    (hcons : ∀ b, ReaderStable fun r => f (b :: r)) : ReaderStable f := by
  intro bs more v rest h
  cases bs with
  | nil => simp [hnil] at h
  | cons b r => exact hcons b r more v rest h

theorem DecoderStable.of_cons {f : List Byte → Decoded} (hnil : f [] = .truncated)
    (hcons : ∀ b, DecoderStable fun r => f (b :: r)) : DecoderStable f := by
  intro bs more h
  cases bs with
  | nil => exact absurd hnil h
  | cons b r => exact hcons b r more h

theorem readerStable_some {α : Type} (v : α) : ReaderStable fun r => some (v, r) := by
  intro bs more w rest h
  simp_all

theorem ReaderStable.map {α β : Type} {f : List Byte → Option (α × List Byte)} (hf : ReaderStable f) (g : α → β) :
    ReaderStable fun bs => (f bs).map fun (v, r) => (g v, r) := by
  intro bs more w rest h
  obtain ⟨⟨v, r⟩, hv, hw⟩ := Option.map_eq_some_iff.1 h
  obtain ⟨rfl, rfl⟩ := Prod.mk.inj hw
  simp [hf bs more v r hv]

theorem ReaderStable.bind {α β : Type} {f : List Byte → Option (α × List Byte)}
    {g : α → List Byte → Option (β × List Byte)} (hf : ReaderStable f) (hg : ∀ v, ReaderStable (g v)) :
    ReaderStable fun bs => (f bs).bind fun (v, r) => g v r := by
  intro bs more w rest h
  obtain ⟨⟨v, r⟩, hv, hw⟩ := Option.bind_eq_some_iff.1 h
  simp [hf bs more v r hv, hg v r more w rest hw]

theorem decoderStable_refused (r : DecodeRefusal) : DecoderStable fun _ => .refused r := fun _ _ _ => rfl

theorem takeByte_stable : ReaderStable takeByte := .of_cons rfl fun b => readerStable_some b

theorem takeWord16_stable : ReaderStable takeWord16 :=
  .of_cons rfl fun b0 => .of_cons rfl fun b1 => readerStable_some (word16 b0 b1)

theorem takeWord32_stable : ReaderStable takeWord32 :=
  .of_cons rfl fun b0 => .of_cons rfl fun b1 => .of_cons rfl fun b2 => .of_cons rfl fun b3 =>
    readerStable_some (word32 b0 b1 b2 b3)

theorem takePtr16_stable : ReaderStable takePtr16 := by
  have hbind : takePtr16 = fun bs => (takeWord16 bs).bind fun (off, r) =>
      (takeWord16 r).map fun (sel, r) => ((off, sel), r) := by
    funext bs
    unfold takePtr16
    cases takeWord16 bs <;> rfl
  rw [hbind]
  exact takeWord16_stable.bind fun off => takeWord16_stable.map (Prod.mk off)

theorem takePtr32_stable : ReaderStable takePtr32 := by
  have hbind : takePtr32 = fun bs => (takeWord32 bs).bind fun (off, r) =>
      (takeWord16 r).map fun (sel, r) => ((off, sel), r) := by
    funext bs
    unfold takePtr32
    cases takeWord32 bs <;> rfl
  rw [hbind]
  exact takeWord32_stable.bind fun off => takeWord16_stable.map (Prod.mk off)

theorem decodeMem16_stable (mod : BitVec 2) (rm : BitVec 3) : ReaderStable (decodeMem16 mod rm) := by
  unfold decodeMem16
  split_ifs
  · exact takeWord16_stable.map Mem16.direct
  · exact readerStable_some _
  · exact takeByte_stable.map fun v => Mem16.based (Base16.ofCode rm) (.d8 v)
  · exact takeWord16_stable.map fun v => Mem16.based (Base16.ofCode rm) (.d16 v)

theorem decodeDisp32_stable (mod : BitVec 2) : ReaderStable (decodeDisp32 mod) := by
  unfold decodeDisp32
  split_ifs
  · exact readerStable_some _
  · exact takeByte_stable.map _
  · exact takeWord32_stable.map _

theorem decodeSib_stable (mod : BitVec 2) : ReaderStable (decodeSib mod) := by
  refine .of_cons rfl fun sib => ?_
  simp only [decodeSib, takeByte_cons]
  split_ifs
  · exact takeWord32_stable.map _
  · exact (decodeDisp32_stable mod).map _

theorem decodeMem32_stable (mod : BitVec 2) (rm : BitVec 3) : ReaderStable (decodeMem32 mod rm) := by
  unfold decodeMem32
  split_ifs
  · exact decodeSib_stable mod
  · exact takeWord32_stable.map _
  · exact (decodeDisp32_stable mod).map _

theorem decodeRegMem_stable (addressSize : Size) (modrm : Byte) : ReaderStable (decodeRegMem addressSize modrm) := by
  unfold decodeRegMem
  dsimp only
  split_ifs
  · exact readerStable_some _
  · cases addressSize with
    | w16 => exact (decodeMem16_stable _ _).map _
    | w32 => exact (decodeMem32_stable _ _).map _

theorem admitInstr_extend (p : Prefixes) (hasMem : Bool) (i : Instr) (rest more : List Byte) :
    admitInstr p hasMem i (rest ++ more) = (admitInstr p hasMem i rest).extend more := by
  unfold admitInstr
  split_ifs <;> rfl

theorem admitTaken_stable {α : Type} (p : Prefixes) (build : α → Instr) {f : List Byte → Option (α × List Byte)}
    (hf : ReaderStable f) : DecoderStable fun bs => admitTaken p build (f bs) := by
  intro bs more h
  cases hv : f bs with
  | none => simp [hv, admitTaken] at h
  | some v => simp only [hf bs more _ _ hv, hv, admitTaken, admitInstr_extend]

theorem decodeFF_stable (dflt : Size) (p : Prefixes) : DecoderStable (decodeFF dflt p) := by
  refine .of_cons rfl fun modrm => ?_
  by_cases hdigit : modrm.extractLsb' 3 3 = 4 ∨ modrm.extractLsb' 3 3 = 5
  · simp only [decodeFF, takeByte_cons, hdigit, if_true]
    intro bs more h
    cases hv : decodeRegMem (p.addressSize dflt) modrm bs with
    | none => simp [hv] at h
    | some v => simp only [decodeRegMem_stable _ _ bs more _ _ hv, hv, admitInstr_extend]
  · simp only [decodeFF, takeByte_cons, hdigit, if_false]
    exact decoderStable_refused _

theorem decode0F_stable (dflt : Size) (p : Prefixes) : DecoderStable (decode0F dflt p) := by
  refine .of_cons rfl fun b => ?_
  simp only [decode0F, takeByte_cons]
  split_ifs
  · cases p.operandSize dflt with
    | w16 => exact admitTaken_stable p _ takeWord16_stable
    | w32 => exact admitTaken_stable p _ takeWord32_stable
  · exact decoderStable_refused _

theorem decodeOpcode_stable (dflt : Size) (p : Prefixes) : DecoderStable (decodeOpcode dflt p) := by
  refine .of_cons rfl fun b => ?_
  simp only [decodeOpcode, takeByte_cons]
  split_ifs
  · exact admitTaken_stable p _ takeByte_stable
  · cases Config.countSel (p.operandSize dflt) (p.addressSize dflt) <;> exact admitTaken_stable p _ takeByte_stable
  · exact admitTaken_stable p _ takeByte_stable
  · cases p.operandSize dflt with
    | w16 => exact admitTaken_stable p _ takeWord16_stable
    | w32 => exact admitTaken_stable p _ takeWord32_stable
  · cases p.operandSize dflt with
    | w16 => exact admitTaken_stable p _ takePtr16_stable
    | w32 => exact admitTaken_stable p _ takePtr32_stable
  · exact decodeFF_stable dflt p
  · exact decode0F_stable dflt p
  · exact decoderStable_refused _

theorem decodeFrom_stable (dflt : Size) (p : Prefixes) : DecoderStable (decodeFrom dflt p) := by
  intro bs more h
  induction bs generalizing p with
  | nil => exact absurd rfl h
  | cons b r ih =>
    rw [List.cons_append]
    cases hb : prefixByte b with
    | none =>
      simp only [decodeFrom, hb] at h ⊢
      exact decodeOpcode_stable dflt p (b :: r) more h
    | some x =>
      cases x with
      | opSize | addrSize | seg _ =>
        simp only [decodeFrom, hb] at h ⊢
        split_ifs at h ⊢
        · rfl
        · exact ih _ h
      | lockRep => simp only [decodeFrom, hb, Decoded.extend_refused]

theorem decode_stable (dflt : Size) : DecoderStable (decode dflt) := decodeFrom_stable dflt Prefixes.empty

theorem decode_append_ok (dflt : Size) (bs rest more : List Byte) (i : Instr) (h : decode dflt bs = .ok i rest) :
    decode dflt (bs ++ more) = .ok i (rest ++ more) := by
  rw [decode_stable dflt bs more (by simp [h]), h, Decoded.extend_ok]

/-! ### Instructions by their parts -/

/-- The row without `alias_of` that has the prefixes `p` and the shape `x`. -/
def Shape.instr (p : Prefixes) : Shape → Instr
  | .jcc8 c d8 => jccRel8 c p d8
  | .jcc16 c rel => jccRel16 c p rel
  | .jcc32 c rel => jccRel32 c p rel
  | .count .w16 d8 => .jcxzRel8 p d8
  | .count .w32 d8 => .jecxzRel8 p d8
  | .jmp8 d8 => .jmpRel8 p d8
  | .jmp16 rel => .jmpRel16 p rel
  | .jmp32 rel => .jmpRel32 p rel
  | .ptr16 off sel => .jmpPtr16x16 p off sel
  | .ptr32 off sel => .jmpPtr16x32 p off sel
  | .nearRm .w16 rm => .jmpRm16 p rm
  | .nearRm .w32 rm => .jmpRm32 p rm
  | .farRm .w16 rm => .jmpM16x16 p rm
  | .farRm .w32 rm => .jmpM16x32 p rm

/-- `wellFormed` on the parts of an instruction. -/
def Shape.wellFormed (dflt : Size) (p : Prefixes) : Shape → Bool
  | .jcc8 _ _ | .jmp8 _ => p.okAnySize
  | .count w _ => p.okCount dflt w
  | .jcc16 _ _ | .jmp16 _ | .ptr16 _ _ => p.okSized dflt .w16
  | .jcc32 _ _ | .jmp32 _ | .ptr32 _ _ => p.okSized dflt .w32
  | .nearRm w rm | .farRm w rm => p.operandSize dflt == w && rm.wellFormed dflt p

theorem core_eq_instr (i : Instr) : i.core = i.parts.2.instr i.parts.1 := by
  cases i <;> rfl

theorem wellFormed_eq_parts (dflt : Size) (i : Instr) :
    wellFormed dflt i = i.parts.2.wellFormed dflt i.parts.1 := by
  cases i <;> rfl

@[simp] theorem Shape.instr_parts (p : Prefixes) (x : Shape) : (x.instr p).parts = (p, x) := by
  cases x with
  | jcc8 c | jcc16 c | jcc32 c => cases c <;> rfl
  | count w | nearRm w | farRm w => cases w <;> rfl
  | _ => rfl

theorem Prefixes.count_le (p : Prefixes) : p.count ≤ 3 := by
  have ho := p.opSize.toNat_le
  have ha := p.addrSize.toNat_le
  have hs := p.seg.isSome.toNat_le
  unfold Prefixes.count
  omega

theorem RegMem.extraBytes_le (rm : RegMem) : rm.extraBytes ≤ 5 := by
  have hd : ∀ d : Disp32, d.byteCount ≤ 4 := fun d => by cases d <;> simp [Disp32.byteCount]
  cases rm with
  | reg r => exact Nat.zero_le 5
  | mem16 m =>
    cases m with
    | direct d => exact (by decide : 2 ≤ 5)
    | based b d => cases d <;> simp [RegMem.extraBytes, Mem16.extraBytes]
  | mem32 m =>
    cases m with
    | direct d => exact (by decide : 4 ≤ 5)
    | based b d => exact (hd d).trans (by decide)
    | sib s x b d =>
      have := hd d
      simp only [RegMem.extraBytes, Mem32.extraBytes]
      omega
    | sibNoBase s x d => exact le_rfl

theorem Shape.length_le (x : Shape) : x.length ≤ 7 := by
  cases x with
  | nearRm w rm | farRm w rm =>
    have := rm.extraBytes_le
    simp only [Shape.length]
    omega
  | _ => simp [Shape.length]

/-- The longest instruction has three prefixes and seven more bytes (R88, D21). -/
theorem Instr.length_le (i : Instr) : i.length ≤ 10 := by
  have hp := i.parts.1.count_le
  have hx := i.parts.2.length_le
  unfold Instr.length
  omega

theorem admitInstr_eq_ok (p : Prefixes) (hasMem : Bool) (i : Instr) (rest : List Byte)
    (h : p.seg.isNone = true ∨ hasMem = true) : admitInstr p hasMem i rest = .ok i rest := by
  have hlen : ¬ Config.maxInsnLen < i.length := by
    have := i.length_le
    simp only [Config.maxInsnLen]
    omega
  have hseg : (p.seg.isSome && !hasMem) = false := by
    rcases h with h | h
    · simp_all
    · simp [h]
  simp [admitInstr, hlen, hseg]

theorem admitTaken_eq_ok {α : Type} (p : Prefixes) (build : α → Instr) (v : α) (rest : List Byte)
    (h : p.seg.isNone = true) : admitTaken p build (some (v, rest)) = .ok (build v) rest :=
  admitInstr_eq_ok p false (build v) rest (.inl h)

/-! ### Decoding an encoded operand (R90 to R93) -/

@[simp] theorem modRM_mod (mod : BitVec 2) (reg rm : BitVec 3) : (modRM mod reg rm).extractLsb' 6 2 = mod := by
  revert mod reg rm; decide
@[simp] theorem modRM_reg (mod : BitVec 2) (reg rm : BitVec 3) : (modRM mod reg rm).extractLsb' 3 3 = reg := by
  revert mod reg rm; decide
@[simp] theorem modRM_rm (mod : BitVec 2) (reg rm : BitVec 3) : (modRM mod reg rm).extractLsb' 0 3 = rm := by
  revert mod reg rm; decide

@[simp] theorem sibByte_scale (s : Scale) (x : Option GReg) (base : BitVec 3) :
    (sibByte s x base).extractLsb' 6 2 = s.code := modRM_mod s.code (indexCode x) base
@[simp] theorem sibByte_index (s : Scale) (x : Option GReg) (base : BitVec 3) :
    (sibByte s x base).extractLsb' 3 3 = indexCode x := modRM_reg s.code (indexCode x) base
@[simp] theorem sibByte_base (s : Scale) (x : Option GReg) (base : BitVec 3) :
    (sibByte s x base).extractLsb' 0 3 = base := modRM_rm s.code (indexCode x) base

@[simp] theorem decodeDisp32_bytes (d : Disp32) (rest : List Byte) :
    decodeDisp32 d.mod (d.bytes ++ rest) = some (d, rest) := by
  cases d <;> simp [decodeDisp32, Disp32.mod, Disp32.bytes]

theorem Disp32.mod_ne_three (d : Disp32) : d.mod ≠ 3#2 := by
  cases d <;> simp [Disp32.mod]

/-- `mod = 0`, `rm = 6` is no register form (R92). -/
theorem Mem16.code_ne_of_wellFormed (b : Base16) (h : (Mem16.based b .none).wellFormed = true) : b.code ≠ 6#3 := by
  cases b with
  | bp => cases h
  | _ => decide

/-- `rm = 4` is no plain base, and `rm = 5` with `mod = 0` is no base (R93). -/
theorem Mem32.code_ne_of_wellFormed (r : GReg) (d : Disp32) (h : (Mem32.based r d).wellFormed = true) :
    r.code ≠ 4#3 ∧ ¬ (d.mod = 0#2 ∧ r.code = 5#3) := by
  cases r with
  | esp => cases h
  | ebp => cases d with
    | none => cases h
    | d8 | d32 => simp [GReg.code, Disp32.mod]
  | _ => simp [GReg.code]

/-- A SIB byte with `base = 5` and `mod = 0` has no base register, and ESP is no index (R93). -/
theorem Mem32.sib_of_wellFormed (s : Scale) (x : Option GReg) (r : GReg) (d : Disp32)
    (h : (Mem32.sib s x r d).wellFormed = true) : indexOk x = true ∧ ¬ (d.mod = 0#2 ∧ r.code = 5#3) := by
  cases r with
  | ebp => cases d with
    | none => cases h
    | d8 | d32 => exact ⟨h, by simp [Disp32.mod]⟩
  | _ => exact ⟨h, by simp [GReg.code]⟩

/-- The bytes of a 16-bit address form: a ModRM byte with the opcode digit, and what the decoder reads it back from. -/
theorem Mem16.decode_bytes (digit : BitVec 3) (m : Mem16) (h : m.wellFormed = true) :
    ∃ mod rm tail, m.bytes digit = modRM mod digit rm :: tail ∧ mod ≠ 3#2 ∧
      ∀ rest, decodeMem16 mod rm (tail ++ rest) = some (m, rest) := by
  cases m with
  | direct d => exact ⟨_, _, _, rfl, by decide, by simp [decodeMem16]⟩
  | based b d =>
    cases d with
    | none => exact ⟨_, _, [], rfl, by decide, by simp [decodeMem16, code_ne_of_wellFormed b h]⟩
    | d8 v => exact ⟨_, _, [v], rfl, by decide, by simp [decodeMem16]⟩
    | d16 v => exact ⟨_, _, _, rfl, by decide, by simp [decodeMem16]⟩

/-- The bytes of a 32-bit address form: a ModRM byte with the opcode digit, and what the decoder reads it back from. -/
theorem Mem32.decode_bytes (digit : BitVec 3) (m : Mem32) (h : m.wellFormed = true) :
    ∃ mod rm tail, m.bytes digit = modRM mod digit rm :: tail ∧ mod ≠ 3#2 ∧
      ∀ rest, decodeMem32 mod rm (tail ++ rest) = some (m, rest) := by
  cases m with
  | direct d => exact ⟨_, _, _, rfl, by decide, by simp [decodeMem32]⟩
  | based r d =>
    obtain ⟨hr, hd⟩ := code_ne_of_wellFormed r d h
    exact ⟨_, _, _, rfl, d.mod_ne_three, by simp [decodeMem32, hr, hd]⟩
  | sib s x r d =>
    obtain ⟨hx, hd⟩ := sib_of_wellFormed s x r d h
    exact ⟨_, _, _, rfl, d.mod_ne_three, by simp [decodeMem32, decodeSib, hd, indexOfCode_indexCode x hx]⟩
  | sibNoBase s x d =>
    exact ⟨_, _, _, rfl, by decide, by simp [decodeMem32, decodeSib, indexOfCode_indexCode x h]⟩

/-- The bytes of a ModRM operand: a ModRM byte with the opcode digit, and what the decoder reads it back from. -/
theorem RegMem.decode_bytes (dflt : Size) (p : Prefixes) (digit : BitVec 3) (rm : RegMem)
    (h : rm.wellFormed dflt p = true) :
    ∃ modrm tail, rm.bytes digit = modrm :: tail ∧ modrm.extractLsb' 3 3 = digit ∧
      ∀ rest, decodeRegMem (p.addressSize dflt) modrm (tail ++ rest) = some (rm, rest) := by
  cases rm with
  | reg r => exact ⟨_, [], rfl, by simp, by simp [decodeRegMem]⟩
  | mem16 m =>
    simp only [RegMem.wellFormed, Bool.and_eq_true, beq_iff_eq] at h
    obtain ⟨hsize, hm⟩ := h
    obtain ⟨mod, rm, tail, hbytes, hmod, hdec⟩ := m.decode_bytes digit hm
    exact ⟨_, tail, hbytes, by simp, by simp [decodeRegMem, hsize, hmod, hdec]⟩
  | mem32 m =>
    simp only [RegMem.wellFormed, Bool.and_eq_true, beq_iff_eq] at h
    obtain ⟨hsize, hm⟩ := h
    obtain ⟨mod, rm, tail, hbytes, hmod, hdec⟩ := m.decode_bytes digit hm
    exact ⟨_, tail, hbytes, by simp, by simp [decodeRegMem, hsize, hmod, hdec]⟩

/-- A register operand admits no segment override (R96). -/
theorem RegMem.isNone_or_isMem (dflt : Size) (p : Prefixes) (rm : RegMem) (h : rm.wellFormed dflt p = true) :
    p.seg.isNone = true ∨ rm.isMem = true := by
  cases rm with
  | reg r => exact .inl h
  | mem16 m | mem32 m => exact .inr rfl

/-! ### Decoding an encoded instruction -/

theorem opcode_high (n m : BitVec 4) : (n ++ m : Byte).extractLsb' 4 4 = n := by revert n m; decide
theorem opcode_low (n m : BitVec 4) : (n ++ m : Byte).extractLsb' 0 4 = m := by revert n m; decide

/-- Opcode FF with the operand's bytes: digit 4 the near, digit 5 the far indirect jump (R81, R87). -/
theorem decodeFF_bytes (dflt : Size) (p : Prefixes) (digit : BitVec 3) (w : Size) (rm : RegMem) (rest : List Byte)
    (hd : digit = 4 ∨ digit = 5) (hw : p.operandSize dflt = w) (h : rm.wellFormed dflt p = true) :
    decodeFF dflt p (rm.bytes digit ++ rest) =
      .ok (if digit = 4 then (Shape.nearRm w rm).instr p else (Shape.farRm w rm).instr p) rest := by
  have hadmit := fun i => admitInstr_eq_ok p rm.isMem i rest (rm.isNone_or_isMem dflt p h)
  obtain ⟨modrm, tail, hbytes, hdigit, hdec⟩ := rm.decode_bytes dflt p digit h
  rw [hbytes, List.cons_append]
  simp only [decodeFF, takeByte_cons, hdigit, hd, if_true, hdec, hw, hadmit]
  cases w <;> rfl

theorem Prefixes.okSized_iff (dflt : Size) (p : Prefixes) (w : Size) :
    p.okSized dflt w = true ↔ p.seg.isNone = true ∧ p.operandSize dflt = w := by
  simp [Prefixes.okSized]

theorem Prefixes.okCount_iff (dflt : Size) (p : Prefixes) (w : Size) :
    p.okCount dflt w = true ↔
      p.seg.isNone = true ∧ Config.countSel (p.operandSize dflt) (p.addressSize dflt) = w := by
  simp [Prefixes.okCount]

/-- After its prefixes, a well-formed instruction's bytes decode to its row without `alias_of`. -/
theorem decodeOpcode_bytes (dflt : Size) (p : Prefixes) (x : Shape) (rest : List Byte)
    (h : x.wellFormed dflt p = true) : decodeOpcode dflt p (x.bytes ++ rest) = .ok (x.instr p) rest := by
  cases x with
  | jcc8 c d =>
    simp [Shape.bytes, decodeOpcode, opcode_high, opcode_low, admitTaken_eq_ok p _ _ _ h, Shape.instr]
  | jcc16 _ _ | jmp16 _ | ptr16 _ _ =>
    obtain ⟨hseg, hw⟩ := (p.okSized_iff dflt .w16).1 h
    simp [Shape.bytes, decodeOpcode, decode0F, opcode_high, opcode_low, hw, admitTaken_eq_ok p _ _ _ hseg, Shape.instr]
  | jcc32 _ _ | jmp32 _ | ptr32 _ _ =>
    obtain ⟨hseg, hw⟩ := (p.okSized_iff dflt .w32).1 h
    simp [Shape.bytes, decodeOpcode, decode0F, opcode_high, opcode_low, hw, admitTaken_eq_ok p _ _ _ hseg, Shape.instr]
  | count w d =>
    obtain ⟨hseg, hw⟩ := (p.okCount_iff dflt w).1 h
    cases w <;> simp [Shape.bytes, decodeOpcode, hw, admitTaken_eq_ok p _ _ _ hseg, Shape.instr]
  | jmp8 d => simp [Shape.bytes, decodeOpcode, admitTaken_eq_ok p _ _ _ h, Shape.instr]
  | nearRm w rm =>
    simp only [Shape.wellFormed, Bool.and_eq_true, beq_iff_eq] at h
    obtain ⟨hw, hrm⟩ := h
    simpa [Shape.bytes, decodeOpcode] using decodeFF_bytes dflt p 4 w rm rest (.inl rfl) hw hrm
  | farRm w rm =>
    simp only [Shape.wellFormed, Bool.and_eq_true, beq_iff_eq] at h
    obtain ⟨hw, hrm⟩ := h
    simpa [Shape.bytes, decodeOpcode] using decodeFF_bytes dflt p 5 w rm rest (.inr rfl) hw hrm

/-- No opcode byte is one of the prefixes (R81, R95). -/
theorem Shape.bytes_head (x : Shape) : ∃ b r, x.bytes = b :: r ∧ prefixByte b = none := by
  cases x with
  | jcc8 c d => exact ⟨_, _, rfl, by cases c <;> rfl⟩
  | _ => exact ⟨_, _, rfl, rfl⟩

/-- The decoder takes the prefixes as the encoder writes them and goes on behind them (R95, R96). -/
theorem decode_prefixes (dflt : Size) (p : Prefixes) (bs : List Byte) :
    decode dflt (p.bytes ++ bs) = decodeFrom dflt p bs := by
  have hseg : ∀ (o a : Bool) (x : Option SReg),
      decodeFrom dflt ⟨o, a, none⟩ ((Prefixes.mk false false x).bytes ++ bs) = decodeFrom dflt ⟨o, a, x⟩ bs := by
    intro o a x
    cases x with
    | none => rfl
    | some y => simp [Prefixes.bytes, decodeFrom, prefixByte_override]
  obtain ⟨o, a, x⟩ := p
  cases o <;> cases a <;> exact hseg _ _ x

/-- The bytes of a well-formed instruction decode to its row without `alias_of`, whatever follows (R80 to R96). -/
theorem decode_encode (dflt : Size) (i : Instr) (rest : List Byte) (h : wellFormed dflt i = true) :
    decode dflt (encode i ++ rest) = .ok i.core rest := by
  rw [wellFormed_eq_parts] at h
  obtain ⟨b, r, hbytes, hprefix⟩ := i.parts.2.bytes_head
  calc decode dflt (encode i ++ rest)
      = decodeFrom dflt i.parts.1 (i.parts.2.bytes ++ rest) := by
        rw [encode, List.append_assoc, decode_prefixes]
    _ = decodeOpcode dflt i.parts.1 (i.parts.2.bytes ++ rest) := by
        rw [hbytes, List.cons_append, decodeFrom, hprefix]
    _ = .ok (i.parts.2.instr i.parts.1) rest := decodeOpcode_bytes dflt _ _ rest h
    _ = .ok i.core rest := by rw [core_eq_instr]

end Sys2Proof

/-! PROOFS. What one step runs (`00_scope.md` R10 to R12): the instruction whose bytes stand at CS:EIP, be they there
already or placed there. -/

namespace Sys2Proof.Machine

open Sys2Proof.Claims

/-! ### Fetching bytes that stand at CS:EIP (R12, R56) -/

/-- A synonym has the meaning of its row without `alias_of` (R104): the two have one arm's body. -/
theorem exec_core (i : Instr) (s : State) : exec i.core s = exec i s := by
  cases i <;> rfl

theorem translateLinear_iff_translatesTo (s : State) (lin a : Word32) :
    translateLinear s lin = .ok a ↔ TranslatesTo s lin a := by
  unfold translateLinear TranslatesTo
  split
  · simp [eq_comm]
  · cases PageMap.find s.pages lin <;> simp [raise]

theorem fetchByte_iff_fetches (s : State) (k : Nat) (b : Byte) : fetchByte s k = .ok b ↔ Fetches s k b := by
  simp only [fetchByte_eq_ok, translateLinear_iff_translatesTo, Fetches, lin, fetchOffset, BitVec.not_lt]

/-- Bytes that can be fetched one by one come first in what the step fetches, whatever stops the fetch behind them. -/
theorem fetchBytes_eq_append (s : State) (bs : List Byte) :
    ∀ (n k : Nat), bs.length ≤ n → (∀ j b, bs[j]? = some b → fetchByte s (k + j) = .ok b) →
      ∃ more, (fetchBytes s n k).1 = bs ++ more := by
  induction bs with
  | nil => exact fun n k _ _ => ⟨_, rfl⟩
  | cons b bs ih =>
    intro n k hlen hfetch
    cases n with
    | zero => cases hlen
    | succ n =>
      have hb : fetchByte s k = .ok b := hfetch 0 b rfl
      obtain ⟨more, hmore⟩ := ih n (k + 1) (Nat.le_of_succ_le_succ hlen) fun j c hc => by
        rw [Nat.add_right_comm]
        exact hfetch (j + 1) c hc
      exact ⟨more, by simp [fetchBytes, hb, hmore]⟩

theorem step_eq_exec (s : State) (i : Instr) (rest : List Byte)
    (h : decode s.defaultSize (fetchBytes s Config.maxInsnLen 0).1 = .ok i rest) : step s = exec i s := by
  simp [step, fetchInstr, h]

/-- A step runs the instruction that bytes at CS:EIP decode to: the bytes behind them have no part in it. -/
theorem step_eq_exec_of_fetched (s : State) (bs : List Byte) (i : Instr) (rest : List Byte)
    (hlen : bs.length ≤ Config.maxInsnLen) (hfetch : ∀ k b, bs[k]? = some b → fetchByte s k = .ok b)
    (h : decode s.defaultSize bs = .ok i rest) : step s = exec i s := by
  obtain ⟨more, hmore⟩ := fetchBytes_eq_append s bs Config.maxInsnLen 0 hlen (by simpa using hfetch)
  exact step_eq_exec s i (rest ++ more) (by rw [hmore, decode_append_ok _ _ _ _ _ h])

/-- Settles O48: the fetched bytes begin with the encoding, and that decodes to the row without `alias_of`. -/
theorem stepRunsEncodedBytes : Obligations.StepRunsEncodedBytes := by
  intro s i hwf hfetch
  have hlen : (encode i).length ≤ Config.maxInsnLen := by
    rw [encode_length_parts]
    exact i.length_le.trans (by decide)
  have hdec : decode s.defaultSize (encode i) = .ok i.core [] := by
    simpa using decode_encode s.defaultSize i [] hwf
  rw [← exec_core]
  exact step_eq_exec_of_fetched s (encode i) i.core [] hlen
    (fun k b hb => (fetchByte_iff_fetches s k b).2 (hfetch k b hb)) hdec

/-! ### Placing bytes where the next step fetches them (log entry 22) -/

/-- The linear address of instruction byte `k` (R51, R56). -/
def fetchAddress (s : State) (k : Nat) : Word32 := lin s.cs (fetchOffset s k)

theorem fetchAddress_ne (s : State) (k d : Nat) (hpos : 0 < d) (hd : d < 2 ^ 32) :
    (fetchAddress s (k + d)).toNat ≠ (fetchAddress s k).toNat := by
  simp only [fetchAddress, lin, fetchOffset, BitVec.toNat_add, BitVec.toNat_ofNat]
  omega

/-- `s` with `b` written at the fetch address of instruction byte `k`. -/
def placeByte (s : State) (k : Nat) (b : Byte) : State :=
  { s with mem := Memory.write s.mem (fetchAddress s k).toNat b }

@[simp] theorem placeByte_mode (s : State) (k : Nat) (b : Byte) : (placeByte s k b).mode = s.mode := rfl
@[simp] theorem placeByte_mem (s : State) (k : Nat) (b : Byte) :
    (placeByte s k b).mem = Memory.write s.mem (fetchAddress s k).toNat b := rfl
@[simp] theorem fetchAddress_placeByte (s : State) (k j : Nat) (b : Byte) :
    fetchAddress (placeByte s k b) j = fetchAddress s j := rfl

/-- In Real mode, where an address is its own translation, no byte is left out. -/
theorem placeBytes_cons_real (s : State) (k : Nat) (b : Byte) (bs : List Byte) (hreal : s.mode = .real) :
    placeBytes s k (b :: bs) = placeBytes (placeByte s k b) (k + 1) bs := by
  simp [placeBytes, translateLinear_real s _ hreal, placeByte, fetchAddress]

/-- Placing bytes from byte `k` on leaves what stands at no fetch address of theirs. -/
theorem read_placeBytes_other (bs : List Byte) (s : State) (k a : Nat) (hreal : s.mode = .real)
    (ha : ∀ j < bs.length, a ≠ (fetchAddress s (k + j)).toNat) :
    Memory.read (placeBytes s k bs).mem a = Memory.read s.mem a := by
  induction bs generalizing s k with
  | nil => rfl
  | cons b bs ih =>
    have hrest : ∀ j < bs.length, a ≠ (fetchAddress s (k + 1 + j)).toNat := fun j hj => by
      rw [Nat.add_right_comm]
      exact ha (j + 1) (Nat.succ_lt_succ hj)
    rw [placeBytes_cons_real s k b bs hreal, ih (placeByte s k b) (k + 1) hreal hrest, placeByte_mem]
    exact read_write_other s.mem _ a b (ha 0 (Nat.succ_pos _))

/-- Placed bytes stand at their fetch addresses: at most 2^32 bytes do not overwrite each other. -/
theorem read_placeBytes (bs : List Byte) (s : State) (k j : Nat) (b : Byte) (hreal : s.mode = .real)
    (hlen : bs.length ≤ 2 ^ 32) (hb : bs[j]? = some b) :
    Memory.read (placeBytes s k bs).mem (fetchAddress s (k + j)).toNat = some b := by
  induction bs generalizing s k j with
  | nil => cases hb
  | cons c bs ih =>
    rw [List.length_cons] at hlen
    rw [placeBytes_cons_real s k c bs hreal]
    cases j with
    | zero =>
      obtain rfl : c = b := by simpa using hb
      have hrest : ∀ j < bs.length, (fetchAddress s k).toNat ≠ (fetchAddress s (k + 1 + j)).toNat := fun j hj => by
        rw [Nat.add_assoc]
        exact (fetchAddress_ne s k (1 + j) (by omega) (by omega)).symm
      rw [Nat.add_zero k, read_placeBytes_other bs (placeByte s k c) (k + 1) _ hreal hrest, placeByte_mem,
        read_write_same]
    | succ j =>
      rw [← Nat.add_assoc, Nat.add_right_comm]
      exact ih (placeByte s k c) (k + 1) j hreal (by omega) hb

theorem natBytes_length (w n k : Nat) : (natBytes w n k).length = n := by
  induction n generalizing k with
  | zero => rfl
  | succ n ih => rw [natBytes, List.length_cons, ih]

/-- In Real mode, the bytes placed at the next fetch are fetched, where their offsets are within the limit. -/
theorem fetchByte_placeBytes (s : State) (bs : List Byte) (j : Nat) (b : Byte) (hreal : s.mode = .real)
    (hlimit : s.eip.toNat + bs.length ≤ s.cs.limit.toNat + 1) (hb : bs[j]? = some b) :
    fetchByte (placeBytes s 0 bs) j = .ok b := by
  have hj : j < bs.length := (List.getElem?_eq_some_iff.1 hb).1
  have hlim := s.cs.limit.isLt
  have hread : Memory.read (placeBytes s 0 bs).mem (fetchAddress s j).toNat = some b := by
    simpa using read_placeBytes bs s 0 j b hreal (by omega) hb
  rw [fetchByte_eq_ok]
  rw [placeBytes_only_mem bs s 0]
  refine ⟨?_, fetchAddress s j, translateLinear_real _ _ hreal, hread⟩
  show ¬ s.cs.limit < s.eip + BitVec.ofNat 32 j
  rw [BitVec.lt_def, BitVec.toNat_add, BitVec.toNat_ofNat]
  omega

/-- Settles O57: the ten placed bytes are the first ones that the step fetches. -/
theorem placedInstructionRuns : Obligations.PlacedInstructionRuns := by
  intro s nbits w i rest hreal hlimit hdec
  have hsize : (s.withFetchWord nbits w).defaultSize = s.defaultSize := by
    rw [withFetchWord_only_mem, withMem_defaultSize]
  refine step_eq_exec_of_fetched _ (natBytes (w % 2 ^ nbits) longestInsn 0) i rest ?_ ?_ (hsize ▸ hdec)
  · rw [natBytes_length]
    decide
  · intro k b hb
    refine fetchByte_placeBytes s _ k b hreal ?_ hb
    rw [natBytes_length, longestInsn]
    omega

/-! ### Sizes and the number of prefixes (R40, R41, R88) -/

theorem defaultSize_eq_w32 (s : State) : s.defaultSize = .w32 ↔ s.mode = .prot ∧ s.cs.d = true := by
  simp [State.defaultSize]

theorem operandSize_eq_w32 (p : Prefixes) (dflt : Size) :
    p.operandSize dflt = .w32 ↔ (dflt = .w32 ↔ p.opSize = false) := by
  cases dflt <;> cases h : p.opSize <;> simp [Prefixes.operandSize, h, Size.other]

theorem addressSize_eq_w32 (p : Prefixes) (dflt : Size) :
    p.addressSize dflt = .w32 ↔ (dflt = .w32 ↔ p.addrSize = false) := by
  cases dflt <;> cases h : p.addrSize <;> simp [Prefixes.addressSize, h, Size.other]

theorem count_eq_sum (p : Prefixes) :
    p.count = (if p.opSize then 1 else 0) + (if p.addrSize then 1 else 0) + (if p.seg = none then 0 else 1) := by
  obtain ⟨o, a, x⟩ := p
  cases o <;> cases a <;> cases x <;> rfl

/-- Settles O47: the step adds nothing around `exec`, and the sizes follow from the default and the prefixes. -/
theorem stepRunsDecodedInstruction : Obligations.StepRunsDecodedInstruction := by
  refine ⟨step_eq_exec, fun s p => ⟨defaultSize_eq_w32 s, ?_, ?_, count_eq_sum p⟩⟩
  · rw [State.operandSize, operandSize_eq_w32, defaultSize_eq_w32]
  · rw [addressSize_eq_w32, defaultSize_eq_w32]

end Sys2Proof.Machine

/-! PROOFS. What an instruction that completes leaves behind (`10_state.md` R43, `42_jmp_far.md` R198): EIP, and CS by a
far jump. The invariants of `10_state.md` follow from it. -/

namespace Sys2Proof.Machine

open Sys2Proof.Claims Sys2Proof.Safety

/-! ### Conditional jumps and the near forms of JMP -/

/-- An instruction is a conditional jump, a near JMP or a far JMP. -/
theorem conditional_isSome (i : Instr) (s : State) :
    (conditional i s).isSome = !(isNearJmp i || isFarJmp i) := by
  cases i <;> rfl

/-- A conditional jump is the jump step under its condition (R111). -/
theorem exec_of_conditional (i : Instr) (s : State) (disp : Word32) (len : Nat) (w : Size) (taken : Bool)
    (h : conditional i s = some (disp, len, w, taken)) : exec i s = finish (jumpRelative taken w len disp s) := by
  cases i <;> cases h <;> rfl

/-- A relative jump that completes writes EIP only, taken or not. -/
theorem jumpRelative_eq_ok_withEip (taken : Bool) (w : Size) (len : Nat) (disp : Word32) (s t : State)
    (h : jumpRelative taken w len disp s = .ok t) : ∃ e, t = s.withEip e := by
  obtain ⟨-, ht⟩ | ⟨-, ht⟩ := jumpRelative_eq_ok taken w len disp s t h
  · exact ⟨_, ht⟩
  · exact ⟨_, ht⟩

theorem jumpIndirect_eq_next (v : Res Word32) (s t : State) (h : jumpIndirect v s = .next t) :
    ∃ e, v = .ok e ∧ t = s.withEip e := by
  cases v with
  | error e => exact absurd ((finish_eq_next _ _).1 h) (by simp)
  | ok e => exact ⟨e, rfl, (jumpNear_eq_ok e s t ((finish_eq_next _ _).1 h)).1⟩

theorem exec_nearJmp_eq_next (i : Instr) (s t : State) (hi : isNearJmp i = true) (h : exec i s = .next t) :
    ∃ e, t = s.withEip e := by
  unfold isNearJmp at hi
  split at hi
  case h_1 | h_2 | h_3 => exact jumpRelative_eq_ok_withEip _ _ _ _ s t ((finish_eq_next _ _).1 h)
  case h_4 | h_5 =>
    obtain ⟨e, -, ht⟩ := jumpIndirect_eq_next _ s t h
    exact ⟨e, ht⟩
  case h_6 => cases hi

/-! ### Memory operands -/

theorem readRm_of_memoryOperand (p : Prefixes) (rm : RegMem) (s : State) (r : SReg) (off : Word32) (w n : Nat)
    (ofReg : GReg → Res (BitVec w)) (h : memoryOperand p rm s = some (r, off)) :
    readRm p rm w n ofReg s = segRead s w r off n := by
  cases rm <;> cases h <;> rfl

theorem readFarPointer_eq_ok (p : Prefixes) (rm : RegMem) (w n : Nat) (s : State) (v : BitVec w) :
    readFarPointer p rm w n s = .ok v ↔
      ∃ r off, memoryOperand p rm s = some (r, off) ∧ segRead s w r off n = .ok v := by
  cases rm with
  | reg r => simp [readFarPointer, readRm, memoryOperand, raise]
  | mem16 m | mem32 m =>
    rw [readFarPointer, readRm_of_memoryOperand p _ s _ _ w n _ rfl]
    exact ⟨fun h => ⟨_, _, rfl, h⟩, fun ⟨_, _, hm, h⟩ => by cases hm; exact h⟩

/-! ### Far jumps -/

/-- A far jump with its pointer in hand is `farJump` of that pointer. -/
theorem exec_of_hasPointer (i : Instr) (s : State) (w : Size) (sel : Word16) (off : Word32)
    (h : HasPointer i s w sel off) : exec i s = finish (farJump w sel off s) := by
  unfold HasPointer at h
  split at h
  case h_1 | h_2 =>
    obtain ⟨rfl, rfl, rfl⟩ := h
    rfl
  case h_3 p rm | h_4 p rm =>
    obtain ⟨rfl, r, o, v, hm, hv, rfl, rfl⟩ := h
    have hread := (readFarPointer_eq_ok p rm _ _ s v).2 ⟨r, o, hm, hv⟩
    simp [exec, execJmpM16x16, execJmpM16x32, hread]
  case h_5 => exact h.elim

/-- A far jump that completes had a pointer in hand. -/
theorem hasPointer_of_exec_eq_next (i : Instr) (s t : State) (hi : isFarJmp i = true) (h : exec i s = .next t) :
    ∃ w sel off, HasPointer i s w sel off := by
  unfold isFarJmp at hi
  split at hi
  case h_1 | h_2 => exact ⟨_, _, _, rfl, rfl, rfl⟩
  case h_3 p rm | h_4 p rm =>
    simp only [exec, execJmpM16x16, execJmpM16x32] at h
    split at h
    · exact absurd ((finish_eq_next _ _).1 h) (by simp)
    · rename_i v hread
      obtain ⟨r, o, hm, hv⟩ := (readFarPointer_eq_ok ..).1 hread
      exact ⟨_, _, _, rfl, r, o, v, hm, hv, rfl, rfl⟩
  case h_5 => cases hi

/-- A far jump that completes loads CS and EIP only, in Protected mode with CPL in the RPL field of CS (R31, R198). -/
theorem exec_farJmp_eq_next (i : Instr) (s t : State) (hi : isFarJmp i = true) (h : exec i s = .next t) :
    ∃ c e, t = s.withCsEip c e ∧ (s.mode = .prot → selRpl c.selector = s.cpl) := by
  obtain ⟨w, sel, off, hp⟩ := hasPointer_of_exec_eq_next i s t hi h
  rw [exec_of_hasPointer i s w sel off hp, finish_eq_next] at h
  obtain ⟨hm, ht⟩ | ⟨-, x, d, o, -, -, -, -, -, -, ht⟩ := farJump_eq_ok w sel off s t h
  · exact ⟨_, _, ht, fun hprot => absurd hprot hm⟩
  · exact ⟨_, _, ht, fun _ => selRpl_loadedCs s.cpl x d⟩

/-- Settles O46: the frame and the RPL field from `exec_farJmp_eq_next`, the pointer's 16 bits from `farReal`. -/
theorem farJumpFrame : Obligations.FarJumpFrame := by
  intro i s t hi h
  obtain ⟨c, e, rfl, hrpl⟩ := exec_farJmp_eq_next i s t hi h
  refine ⟨rfl, hrpl, fun hm w sel off hp => ?_⟩
  rw [exec_of_hasPointer i s w sel off hp, finish_eq_next] at h
  obtain ⟨-, ht⟩ | ⟨hprot, -⟩ := farJump_eq_ok w sel off s _ h
  · exact congrArg (fun u : State => u.cs.selector) ht
  · exact absurd hprot hm

/-! ### Every step -/

/-- Everything an instruction that completes can have done: a far jump loads CS and EIP, any other instruction writes
EIP only. -/
theorem exec_eq_next (i : Instr) (s t : State) (h : exec i s = .next t) :
    (isFarJmp i = false ∧ ∃ e, t = s.withEip e) ∨
      (isFarJmp i = true ∧ ∃ c e, t = s.withCsEip c e ∧ (s.mode = .prot → selRpl c.selector = s.cpl)) := by
  cases hfar : isFarJmp i with
  | true => exact .inr ⟨rfl, exec_farJmp_eq_next i s t hfar h⟩
  | false =>
    refine .inl ⟨rfl, ?_⟩
    cases hnear : isNearJmp i with
    | true => exact exec_nearJmp_eq_next i s t hnear h
    | false =>
      have hcond : (conditional i s).isSome = true := by simp [conditional_isSome, hfar, hnear]
      obtain ⟨⟨disp, len, w, taken⟩, hq⟩ := Option.isSome_iff_exists.1 hcond
      rw [exec_of_conditional i s disp len w taken hq, finish_eq_next] at h
      exact jumpRelative_eq_ok_withEip taken w len disp s t h

/-- A step that completes fetched an instruction and is its meaning (R11, R12). -/
theorem step_eq_next (s t : State) (h : step s = .next t) : ∃ i, fetchInstr s = .ok i ∧ exec i s = .next t := by
  unfold step at h
  split at h
  · rename_i i hi
    exact ⟨i, hi, h⟩
  · exact absurd ((finish_eq_next _ _).1 h) (by simp)

/-- Settles O49: the two cases of `exec_eq_next`. -/
theorem stepChangesOnlyEipAndCs : Obligations.StepChangesOnlyEipAndCs := by
  intro s t h
  obtain ⟨i, hi, hexec⟩ := step_eq_next s t h
  obtain ⟨-, e, rfl⟩ | ⟨hfar, c, e, rfl, -⟩ := exec_eq_next i s t hexec
  · exact ⟨rfl, fun hcs => absurd rfl hcs⟩
  · exact ⟨rfl, fun _ => ⟨i, hi, hfar⟩⟩

/-! ### The state invariant -/

/-- EIP has no part in the invariant. -/
theorem stateOk_withEip (s : State) (e : Word32) (hs : StateOk s) : StateOk (s.withEip e) :=
  ⟨hs.memory, hs.pages, hs.eflagsBit1, hs.rplIsCpl, hs.v86Cpl⟩

/-- A load of CS keeps the invariant where, in Protected mode, it puts CPL into the RPL field (R31). -/
theorem stateOk_withCsEip (s : State) (c : Segment) (e : Word32) (hs : StateOk s)
    (hrpl : s.mode = .prot → selRpl c.selector = s.cpl) : StateOk (s.withCsEip c e) :=
  ⟨hs.memory, hs.pages, hs.eflagsBit1, hrpl, hs.v86Cpl⟩

/-- Settles O50: each of the two cases of `exec_eq_next` keeps the invariant. -/
theorem stateOkKept : Obligations.StateOkKept := by
  intro s t hs h
  obtain ⟨i, -, hexec⟩ := step_eq_next s t h
  obtain ⟨-, e, rfl⟩ | ⟨-, c, e, rfl, hrpl⟩ := exec_eq_next i s t hexec
  · exact stateOk_withEip s e hs
  · exact stateOk_withCsEip s c e hs hrpl

theorem reset_mode : State.reset.mode = .real := rfl

/-- Settles O51: no byte and no page is listed at reset, and the two clauses about CPL are of other modes. -/
theorem stateOkAtReset : Obligations.StateOkAtReset where
  memory := reset_memory_wf
  pages := reset_pages_wf
  eflagsBit1 := rfl
  rplIsCpl hprot := absurd hprot (by simp [reset_mode])
  v86Cpl hv86 := absurd hv86 (by simp [reset_mode])

/-- Settles O58: every segment register but CS holds `Segment.resetData`. -/
theorem resetState : Obligations.ResetState := by
  refine ⟨rfl, rfl, rfl, rfl, rfl, reset_mode, rfl, rfl, fun r hr => ?_⟩
  cases r with
  | cs => exact absurd rfl hr
  | ds | es | fs | gs | ss => exact ⟨rfl, rfl, rfl⟩

end Sys2Proof.Machine

/-! PROOFS. How a memory operand that passes its checks stops on the bytes it reads (`20_memory.md` R53, R55, R58;
`60_exceptions.md` R230). -/

namespace Sys2Proof.Machine

open Sys2Proof.Claims

/-! ### How a read of memory stops, byte by byte -/

theorem add_ofNat_succ (a : Word32) (k : Nat) : a + BitVec.ofNat 32 (k + 1) = a + 1 + BitVec.ofNat 32 k := by
  rw [Nat.add_comm k 1, BitVec.ofNat_add, ← BitVec.add_assoc]
  rfl

theorem translateLinear_of_faults (s : State) (addr code : Word32) (h : TranslateFaults s addr code) :
    translateLinear s addr = .error (.fault (.exception .pf (some code) s.eip)) := by
  obtain ⟨hm, hpg, hfind⟩ := h
  simp [translateLinear, hm, hpg, hfind, raise]

theorem translateRange_succ_of_translates (s : State) (addr a : Word32) (n : Nat) (h : TranslatesTo s addr a) :
    translateRange s addr (n + 1) = (translateRange s (addr + 1) n).map (a :: ·) := by
  rw [translateRange, (translateLinear_iff_translatesTo s addr a).2 h]
  cases translateRange s (addr + 1) n <;> rfl

/-- The first byte that `Translate` faults on stops the translation of them all. -/
theorem translateRange_of_faults (s : State) (code : Word32) (k : Nat) :
    ∀ (addr : Word32) (n : Nat), k < n → TranslateFaults s (addr + BitVec.ofNat 32 k) code →
      (∀ j < k, ∃ a, TranslatesTo s (addr + BitVec.ofNat 32 j) a) →
      translateRange s addr n = .error (.fault (.exception .pf (some code) s.eip)) := by
  induction k with
  | zero =>
    intro addr n hn hfault _
    obtain ⟨n, rfl⟩ := Nat.exists_eq_add_one_of_ne_zero hn.ne'
    have hstop := translateLinear_of_faults s addr code (by simpa using hfault)
    simp [translateRange, hstop]
  | succ k ih =>
    intro addr n hn hfault hbefore
    obtain ⟨n, rfl⟩ := Nat.exists_eq_add_one_of_ne_zero (Nat.ne_zero_of_lt hn)
    obtain ⟨a, ha⟩ := hbefore 0 k.succ_pos
    rw [BitVec.add_zero] at ha
    have hrest := ih (addr + 1) n (by omega) (add_ofNat_succ addr k ▸ hfault)
      fun j hj => add_ofNat_succ addr j ▸ hbefore (j + 1) (Nat.succ_lt_succ hj)
    rw [translateRange_succ_of_translates s addr a n ha, hrest]
    rfl

/-- Where every byte translates, address `j` of the translation is the translation of byte `j`. -/
theorem translateRange_of_translates (s : State) (n : Nat) :
    ∀ addr : Word32, (∀ j < n, ∃ a, TranslatesTo s (addr + BitVec.ofNat 32 j) a) →
      ∃ ps, translateRange s addr n = .ok ps ∧
        ∀ j < n, ∀ a, TranslatesTo s (addr + BitVec.ofNat 32 j) a → ps[j]? = some a := by
  induction n with
  | zero => exact fun _ _ => ⟨[], rfl, fun j hj => absurd hj j.not_lt_zero⟩
  | succ n ih =>
    intro addr htrans
    obtain ⟨a, ha⟩ := htrans 0 n.succ_pos
    rw [BitVec.add_zero] at ha
    obtain ⟨ps, hps, hget⟩ := ih (addr + 1)
      fun j hj => add_ofNat_succ addr j ▸ htrans (j + 1) (Nat.succ_lt_succ hj)
    refine ⟨a :: ps, by rw [translateRange_succ_of_translates s addr a n ha, hps]; rfl, fun j hj x hx => ?_⟩
    cases j with
    | zero =>
      rw [BitVec.add_zero] at hx
      rw [← translateLinear_iff_translatesTo] at ha hx
      simpa [ha] using hx
    | succ j => simpa using hget j (Nat.lt_of_succ_lt_succ hj) x (add_ofNat_succ addr j ▸ hx)

/-- The first address that memory does not hold stops the reads. -/
theorem readPhysicals_of_undefined (s : State) (a : Word32) (hnone : Memory.read s.mem a.toNat = none) (k : Nat) :
    ∀ ps : List Word32, ps[k]? = some a →
      (∀ j < k, ∃ x b, ps[j]? = some x ∧ Memory.read s.mem x.toNat = some b) →
      readPhysicals s ps = .error (.fault (.undefinedRead a s.eip)) := by
  induction k with
  | zero =>
    intro ps hk _
    cases ps with
    | nil => cases hk
    | cons x ps =>
      cases hk
      simp [readPhysicals, readPhysical, hnone]
  | succ k ih =>
    intro ps hk hbefore
    cases ps with
    | nil => cases hk
    | cons x ps =>
      obtain ⟨y, b, hy, hb⟩ := hbefore 0 k.succ_pos
      cases hy
      have hrest := ih ps (by simpa using hk) fun j hj => by simpa using hbefore (j + 1) (Nat.succ_lt_succ hj)
      simp [readPhysicals, (readPhysical_eq_ok s x b).2 hb, hrest]

/-- A read of memory stops with what `ReadStops` says of its bytes: the page faults come before the reads (log entry
26). -/
theorem memRead_of_readStops (s : State) (w : Nat) (addr : Word32) (n : Nat) (f : Fault) (h : ReadStops s addr n f) :
    memRead s w addr n = .error (.fault f) := by
  obtain ⟨k, hk, ⟨code, hfault, rfl, hbefore⟩ | ⟨a, ha, hnone, rfl, htrans, hbefore⟩⟩ := h
  · simp [memRead, readLinear, translateRange_of_faults s code k addr n hk hfault hbefore]
  · obtain ⟨ps, hps, hget⟩ := translateRange_of_translates s n addr htrans
    have hread := readPhysicals_of_undefined s a hnone k ps (hget k hk a ha) fun j hj => by
      obtain ⟨x, b, hx, hb⟩ := hbefore j hj
      exact ⟨x, b, hget j (hj.trans hk) x hx, hb⟩
    simp [memRead, readLinear, hps, hread]

/-! ### Memory operands within their checks -/

theorem notReadable_iff_unusable (g : Segment) : notReadable g = true ↔ Unusable g := by
  simp [notReadable, executeOnly, expandDown, Unusable, BitVec.getLsbD, Nat.testBit_eq_decide_div_mod_eq, and_assoc,
    or_assoc]

/-- A segment read that passes the checks of its mode is the read at the linear address (R55). -/
theorem segRead_of_inBounds (s : State) (w : Nat) (r : SReg) (off : Word32) (n : Nat) (hn : 0 < n)
    (h : OperandInBounds s r off n) : segRead s w r off n = memRead s w (lin (s.seg r) off) n := by
  unfold segRead
  obtain ⟨hm, husable, hlimit⟩ | ⟨hm, hoff⟩ := h
  · have hpass : ¬ (notReadable (s.seg r) = true ∨ (s.seg r).limit.toNat < off.toNat + (n - 1)) := by
      rw [notReadable_iff_unusable]
      exact not_or.2 ⟨husable, by omega⟩
    rw [if_pos hm, if_neg hpass]
  · have hpass : ¬ Config.realOffsetMax < off.toNat + (n - 1) := by
      unfold Config.realOffsetMax
      omega
    rw [if_neg hm, if_neg hpass]

/-- The four forms with a memory operand, and how many bytes each reads (R166, R167, R182, R183). -/
theorem operandBytes_eq_some (i : Instr) (s : State) (r : SReg) (off : Word32) (n : Nat)
    (h : operandBytes i s = some (r, off, n)) :
    ∃ p rm, memoryOperand p rm s = some (r, off) ∧
      (i = .jmpRm16 p rm ∧ n = 2 ∨ i = .jmpRm32 p rm ∧ n = 4 ∨ i = .jmpM16x16 p rm ∧ n = 4 ∨
        i = .jmpM16x32 p rm ∧ n = 6) := by
  unfold operandBytes at h
  split at h
  case h_5 => cases h
  all_goals
    obtain ⟨⟨r', off'⟩, hm, ha⟩ := Option.map_eq_some_iff.1 h
    cases ha
    exact ⟨_, _, hm, by simp⟩

theorem operandBytes_size_pos (i : Instr) (s : State) (r : SReg) (off : Word32) (n : Nat)
    (h : operandBytes i s = some (r, off, n)) : 0 < n := by
  obtain ⟨_, _, -, ⟨-, rfl⟩ | ⟨-, rfl⟩ | ⟨-, rfl⟩ | ⟨-, rfl⟩⟩ := operandBytes_eq_some i s r off n h
  all_goals decide

/-- A memory operand whose read stops, at whatever width it is taken, stops its instruction. -/
theorem exec_of_operand_stops (i : Instr) (s : State) (r : SReg) (off : Word32) (n : Nat) (e : Stop)
    (h : operandBytes i s = some (r, off, n)) (hstop : ∀ w, segRead s w r off n = .error e) :
    exec i s = finish (.error e) := by
  obtain ⟨p, rm, hm, hforms⟩ := operandBytes_eq_some i s r off n h
  have hread : ∀ w (ofReg : GReg → Res (BitVec w)), readRm p rm w n ofReg s = .error e := fun w ofReg =>
    (readRm_of_memoryOperand p rm s r off w n ofReg hm).trans (hstop w)
  obtain ⟨rfl, rfl⟩ | ⟨rfl, rfl⟩ | ⟨rfl, rfl⟩ | ⟨rfl, rfl⟩ := hforms
  · simp [exec, execJmpRm16, readRm16, hread, jumpIndirect, Except.map]
  · simp [exec, execJmpRm32, readRm32, hread, jumpIndirect]
  · simp [exec, execJmpM16x16, readFarPointer, hread]
  · simp [exec, execJmpM16x32, readFarPointer, hread]

/-- A memory operand within its checks stops its instruction with what `ReadStops` says of its bytes. -/
theorem exec_of_operand_readStops (i : Instr) (s : State) (r : SReg) (off : Word32) (n : Nat) (f : Fault)
    (hop : operandBytes i s = some (r, off, n)) (hbounds : OperandInBounds s r off n)
    (hstop : ReadStops s ((s.seg r).base + off) n f) : exec i s = .fault f :=
  exec_of_operand_stops i s r off n (.fault f) hop fun w => by
    rw [segRead_of_inBounds s w r off n (operandBytes_size_pos i s r off n hop) hbounds]
    exact memRead_of_readStops s w _ n f hstop

/-- Settles O28: the undefined read is one of the two ways `ReadStops` names. -/
theorem operandUndefinedByte : Obligations.OperandUndefinedByte :=
  fun i s r off n a => exec_of_operand_readStops i s r off n (.undefinedRead a s.eip)

end Sys2Proof.Machine

/-! PROOFS. Words written out from the tables of `30_encoding.md`, run through the decoder: closed words, one clause per
table. -/

namespace Sys2Proof

open Sys2Proof.Claims

/-- Settles O6: the single words, then the rows of the condition, register and override tables one by one. -/
theorem writtenWordsDecode : Obligations.WrittenWordsDecode := by
  refine ⟨rfl, rfl, rfl, rfl, rfl, rfl, rfl, rfl, rfl, rfl, rfl, ?conditions, ?registers, ?overrides⟩
  case conditions => decide
  case registers => decide
  case overrides => decide

end Sys2Proof

/-! PROOFS. What a read of memory that completes answers (`20_memory.md` R53, R55): byte by byte, least significant
first. -/

namespace Sys2Proof.Machine

open Sys2Proof.Claims

/-! ### The number that bytes make (R53) -/

/-- Bit `i` of a little-endian number is bit `i % 8` of its byte `i / 8`; the bytes past the last are 0. -/
theorem getLsbD_leWord (w : Nat) (bs : List Byte) (i : Nat) :
    (leWord w bs).getLsbD i = (decide (i < w) && (bs.getD (i / 8) 0).getLsbD (i % 8)) := by
  induction bs generalizing i with
  | nil => simp [leWord]
  | cons b bs ih =>
    simp only [leWord, BitVec.getLsbD_or, BitVec.getLsbD_setWidth, BitVec.getLsbD_shiftLeft, ih]
    by_cases hi : i < 8
    · simp [hi, Nat.div_eq_of_lt hi, Nat.mod_eq_of_lt hi]
    · have hdiv : i / 8 = (i - 8) / 8 + 1 := by omega
      have hmod : i % 8 = (i - 8) % 8 := by omega
      have hw : i < w → i - 8 < w := by omega
      rw [hdiv, hmod, List.getD_cons_succ, BitVec.getLsbD_of_ge b i (by omega)]
      by_cases hiw : i < w <;> simp [hi, hiw, hw]

/-- `n` bytes of a little-endian number from byte `k` on are the number that those bytes make. -/
theorem extractLsb'_leWord_bytes (w k n : Nat) (bs : List Byte) (h : 8 * k + 8 * n ≤ w) :
    (leWord w bs).extractLsb' (8 * k) (8 * n) = leWord (8 * n) ((bs.drop k).take n) := by
  refine BitVec.eq_of_getLsbD_eq fun i hi => ?_
  have hdiv : (8 * k + i) / 8 = k + i / 8 := by omega
  have hmod : (8 * k + i) % 8 = i % 8 := by omega
  have hbyte : i / 8 < n := by omega
  have hiw : 8 * k + i < w := by omega
  rw [BitVec.getLsbD_extractLsb', getLsbD_leWord, getLsbD_leWord, hdiv, hmod]
  simp [hi, hiw, List.getElem?_take_of_lt hbyte]

@[simp] theorem leWord_singleton (b : Byte) : leWord 8 [b] = b := by simp [leWord]

theorem extractLsb'_leWord (w : Nat) (bs : List Byte) (k : Nat) (b : Byte) (hw : 8 * k + 8 ≤ w)
    (hb : bs[k]? = some b) : (leWord w bs).extractLsb' (8 * k) 8 = b := by
  have hbyte : (bs.drop k).take 1 = [b] := by rw [List.take_one, List.head?_drop, hb, Option.toList_some]
  rw [← leWord_singleton b, ← hbyte]
  exact extractLsb'_leWord_bytes w k 1 bs hw

/-- The low `n` bytes of a little-endian number are the number that its first `n` bytes make. -/
theorem setWidth_leWord (w n : Nat) (bs : List Byte) (h : 8 * n ≤ w) :
    (leWord w bs).setWidth (8 * n) = leWord (8 * n) (bs.take n) := by
  rw [BitVec.setWidth_eq_extractLsb' h]
  exact extractLsb'_leWord_bytes w 0 n bs (by omega)

/-- Two little-endian numbers side by side, the first bytes low. -/
theorem leWord_append (w : Nat) (lo hi : List Byte) :
    leWord w hi ++ leWord (8 * lo.length) lo = leWord (w + 8 * lo.length) (lo ++ hi) := by
  refine BitVec.eq_of_getLsbD_eq fun i hlt => ?_
  rw [BitVec.getLsbD_append, getLsbD_leWord, getLsbD_leWord, getLsbD_leWord]
  by_cases hlow : i < 8 * lo.length
  · have hbyte : i / 8 < lo.length := by omega
    simp [hlt, hlow, List.getElem?_append_left hbyte]
  · have hbyte : lo.length ≤ i / 8 := by omega
    have hdiv : (i - 8 * lo.length) / 8 = i / 8 - lo.length := by omega
    have hmod : (i - 8 * lo.length) % 8 = i % 8 := by omega
    have hw : i - 8 * lo.length < w := by omega
    simp [hlt, hlow, hdiv, hmod, hw, List.getElem?_append_right hbyte]

theorem leWord_cons_eq_append (w : Nat) (b : Byte) (bs : List Byte) :
    leWord (w + 8) (b :: bs) = leWord w bs ++ b := by
  simpa using (leWord_append w [b] bs).symm

section

variable (b0 b1 b2 b3 b4 b5 b6 b7 : Byte)

theorem leWord_two_bytes : leWord 16 [b0, b1] = b1 ++ b0 := by
  rw [leWord_cons_eq_append, leWord_singleton]

theorem leWord_four_bytes : leWord 32 [b0, b1, b2, b3] = b3 ++ b2 ++ b1 ++ b0 := by
  iterate 3 rw [leWord_cons_eq_append]
  rw [leWord_singleton]

theorem leWord_eight_bytes :
    leWord 64 [b0, b1, b2, b3, b4, b5, b6, b7] = b7 ++ b6 ++ b5 ++ b4 ++ b3 ++ b2 ++ b1 ++ b0 := by
  iterate 7 rw [leWord_cons_eq_append]
  rw [leWord_singleton]

end

/-! ### A read that completes, byte by byte (R53, R55) -/

/-- `Translate` answers for the linear address `addr`, and memory holds `b` there. -/
def HoldsByte (s : State) (addr : Word32) (b : Byte) : Prop :=
  ∃ a, TranslatesTo s addr a ∧ Memory.read s.mem a.toNat = some b

/-- Where a read completes, the order in which it translates and reads its bytes cannot be seen. -/
theorem readLinear_succ_eq_ok (s : State) (addr : Word32) (n : Nat) (bs : List Byte) :
    readLinear s addr (n + 1) = .ok bs ↔
      ∃ b rest, bs = b :: rest ∧ HoldsByte s addr b ∧ readLinear s (addr + 1) n = .ok rest := by
  simp only [readLinear_eq_ok, HoldsByte, ← translateLinear_iff_translatesTo, ← readPhysical_eq_ok, translateRange]
  cases translateLinear s addr with
  | error e => simp
  | ok a =>
    cases translateRange s (addr + 1) n with
    | error e => simp
    | ok ps =>
      cases hb : readPhysical s a with
      | error e => simp [readPhysicals, hb]
      | ok c => cases hbs : readPhysicals s ps <;> simp [readPhysicals, hb, hbs, eq_comm]

/-- A read answers the bytes that memory holds, byte `k` at the linear address `k` further on. -/
theorem readLinear_eq_ok_iff_holds (s : State) (n : Nat) :
    ∀ (addr : Word32) (bs : List Byte), readLinear s addr n = .ok bs ↔
      bs.length = n ∧ ∀ k b, bs[k]? = some b → HoldsByte s (addr + BitVec.ofNat 32 k) b := by
  induction n with
  | zero =>
    intro addr bs
    cases bs <;> simp [readLinear, translateRange, readPhysicals]
  | succ n ih =>
    intro addr bs
    cases bs with
    | nil => simp [readLinear_succ_eq_ok]
    | cons b bs =>
      simp only [readLinear_succ_eq_ok, ih, List.length_cons, Nat.add_right_cancel_iff]
      constructor
      · rintro ⟨_, _, ⟨⟩, hb, rfl, hbs⟩
        refine ⟨rfl, fun k c hc => ?_⟩
        cases k with
        | zero =>
          cases hc
          rwa [BitVec.add_zero]
        | succ k => exact add_ofNat_succ addr k ▸ hbs k c hc
      · rintro ⟨rfl, hall⟩
        refine ⟨b, bs, rfl, by simpa using hall 0 b rfl, rfl, fun k c hc => ?_⟩
        exact add_ofNat_succ addr k ▸ hall (k + 1) c hc

/-- A shorter read at the same address answers the first bytes of a longer one. -/
theorem readLinear_take (s : State) (addr : Word32) (m n : Nat) (bs : List Byte) (hmn : m ≤ n)
    (h : readLinear s addr n = .ok bs) : readLinear s addr m = .ok (bs.take m) := by
  obtain ⟨rfl, hbs⟩ := (readLinear_eq_ok_iff_holds s n addr bs).1 h
  refine (readLinear_eq_ok_iff_holds s m addr _).2 ⟨List.length_take_of_le hmn, fun k b hb => hbs k b ?_⟩
  rw [List.getElem?_take] at hb
  exact (Option.ite_none_right_eq_some.1 hb).2

/-- Byte `k` of the number that a read answers is what memory holds `k` addresses on. -/
theorem holdsByte_of_memRead (s : State) (addr : Word32) (n k w : Nat) (v : BitVec w)
    (h : memRead s w addr n = .ok v) (hk : k < n) (hw : 8 * n ≤ w) :
    HoldsByte s (addr + BitVec.ofNat 32 k) (v.extractLsb' (8 * k) 8) := by
  obtain ⟨bs, hbs, rfl⟩ := (memRead_eq_ok s w addr n v).1 h
  obtain ⟨rfl, hall⟩ := (readLinear_eq_ok_iff_holds s n addr bs).1 hbs
  have hget : bs[k]? = some bs[k] := List.getElem?_eq_getElem hk
  rw [extractLsb'_leWord w bs k bs[k] (by omega) hget]
  exact hall k bs[k] hget

theorem Memory.read_eq_find? (m : Memory) (a : Nat) :
    Memory.read m a = (m.find? (fun c => c.1 == a)).map Prod.snd := by
  induction m with
  | nil => rfl
  | cons c m ih => by_cases hc : c.1 = a <;> simp [Memory.read, hc, ih]

theorem PageMap.find_eq_find? (m : PageMap) (lin : Word32) :
    PageMap.find m lin = ((m.find? (fun c => c.1 == lin.toNat)).map Prod.snd).getD (.physical lin) := by
  induction m with
  | nil => rfl
  | cons c m ih => by_cases hc : c.1 = lin.toNat <;> simp [PageMap.find, hc, ih]

/-- Settles O29: the bytes of the number read, and the two lookups as the first entry of that address. -/
theorem memReadLittleEndian : Obligations.MemReadLittleEndian :=
  ⟨fun s addr n k v h hk => holdsByte_of_memRead s addr n k (8 * n) v h hk le_rfl, Memory.read_eq_find?,
    PageMap.find_eq_find?⟩

/-- Settles O30: the bytes that memory holds, put in a list, are the bytes that the read answers. -/
theorem memReadCompletes : Obligations.MemReadCompletes := by
  intro s addr n w h
  have hholds : ∀ k : Fin n, ∃ b, HoldsByte s (addr + BitVec.ofNat 32 k) b := fun k => by
    obtain ⟨a, b, ha, hb⟩ := h k k.isLt
    exact ⟨b, a, ha, hb⟩
  choose byte hbyte using hholds
  refine ⟨leWord w (List.ofFn byte), (memRead_eq_ok ..).2 ⟨List.ofFn byte, ?_, rfl⟩⟩
  refine (readLinear_eq_ok_iff_holds s n addr _).2 ⟨List.length_ofFn, fun k b hb => ?_⟩
  obtain ⟨hk, rfl⟩ := List.getElem?_eq_some_iff.1 hb
  simpa using hbyte ⟨k, by simpa using hk⟩

/-- Settles O31: the first two bytes of the longer read make the low half of its number. -/
theorem narrowReadIsLowHalf : Obligations.NarrowReadIsLowHalf := by
  intro s addr v h
  obtain ⟨bs, hbs, rfl⟩ := (memRead_eq_ok ..).1 h
  exact (memRead_eq_ok ..).2 ⟨bs.take 2, readLinear_take s addr 2 4 bs (by decide) hbs,
    setWidth_leWord 32 2 bs (by decide)⟩

end Sys2Proof.Machine

/-! PROOFS. The checks that a memory operand meets before its bytes are read (`20_memory.md` R51, R55, R58;
`60_exceptions.md` R199, R221, R222). -/

namespace Sys2Proof.Machine

open Sys2Proof.Claims

/-- In Real and V86 mode an operand that reaches above 0FFFFH is the `#GP` of the mode (R55, R221). -/
theorem segRead_beyond_realOffsetMax (s : State) (w : Nat) (r : SReg) (off : Word32) (n : Nat)
    (hm : s.mode ≠ .prot) (hoff : 0xFFFF < off.toNat + n - 1) : segRead s w r off n = raiseOffsetGp s := by
  have hlast : Config.realOffsetMax < off.toNat + (n - 1) := by
    unfold Config.realOffsetMax
    omega
  unfold segRead
  rw [if_neg hm, if_pos hlast]

/-- In Protected mode an operand in an unusable segment or beyond the limit is `#SS(0)` through SS, `#GP(0)` through any
other segment (R55, R222). -/
theorem segRead_of_protected_checks (s : State) (w : Nat) (r : SReg) (off : Word32) (n : Nat)
    (hm : s.mode = .prot) (hbad : Unusable (s.seg r) ∨ (s.seg r).limit.toNat < off.toNat + n - 1) :
    segRead s w r off n = raise (if r = .ss then .ss else .gp) (some 0) s := by
  have hfails : notReadable (s.seg r) = true ∨ (s.seg r).limit.toNat < off.toNat + (n - 1) := by
    rw [notReadable_iff_unusable]
    exact hbad.imp_right fun h => by omega
  unfold segRead
  rw [if_pos hm, if_pos hfails]

/-- Settles O24: the operand's read raises the `#GP` of the mode, and that is the outcome. -/
theorem realModeOperandBounds : Obligations.RealModeOperandBounds := by
  intro i s r off n hop hoff
  have hexec : s.mode ≠ .prot → exec i s = raises .gp (if s.mode = .real then none else some 0) s := fun hm =>
    exec_of_operand_stops i s r off n _ hop fun w => segRead_beyond_realOffsetMax s w r off n hm hoff
  constructor
  · intro hreal
    simpa [hreal] using hexec (by simp [hreal])
  · intro hv86
    simpa [hv86] using hexec (by simp [hv86])

/-- Settles O25: the operand's read raises the exception of its segment, and that is the outcome. -/
theorem protectedOperandChecks : Obligations.ProtectedOperandChecks := by
  intro i s r off n hop hm hbad
  have hexec : exec i s = raises (if r = .ss then .ss else .gp) (some 0) s :=
    exec_of_operand_stops i s r off n _ hop fun w => segRead_of_protected_checks s w r off n hm hbad
  constructor
  · intro hr
    rwa [if_pos hr] at hexec
  · intro hr
    rwa [if_neg hr] at hexec

/-- Settles O26: `segRead_of_inBounds`, the linear address taken as a number. -/
theorem segmentReadWithinBounds : Obligations.SegmentReadWithinBounds := by
  refine ⟨fun s r off n w hn hbounds => ?_, fun s r => ?_⟩
  · exact ⟨lin (s.seg r) off, BitVec.toNat_add _ _, segRead_of_inBounds s w r off n hn hbounds⟩
  · cases r <;> rfl

/-- Settles O27: with paging on, the first byte whose page faults is the first of the two ways `ReadStops` names. -/
theorem operandPageFault : Obligations.OperandPageFault := by
  intro i s r off n k code hop hk hpg hm hbounds hbefore hfault
  have hpaged : ¬ (s.mode = .real ∨ s.pg = false) := by simp [hm, hpg]
  have hstop : ReadStops s ((s.seg r).base + off) n (.exception .pf (some code) s.eip) :=
    ⟨k, hk, .inl ⟨code, ⟨hm, hpg, hfault⟩, rfl, by simpa only [TranslatesTo, if_neg hpaged] using hbefore⟩⟩
  exact exec_of_operand_readStops i s r off n _ hop hbounds hstop

end Sys2Proof.Machine

/-! PROOFS. How a step stops at its fetch (`20_memory.md` R56; `60_exceptions.md` R226), and the stops of a whole step:
every outcome but the next state, by what raised it. -/

namespace Sys2Proof.Machine

open Sys2Proof.Claims

/-! ### A needed byte that cannot be fetched (R56, R226) -/

/-- The fetch ends before the first byte that cannot be fetched. -/
theorem fetchBytes_eq_of_stop (s : State) (e : Stop) (bs : List Byte) :
    ∀ n k : Nat, bs.length < n → (∀ j b, bs[j]? = some b → fetchByte s (k + j) = .ok b) →
      fetchByte s (k + bs.length) = .error e → fetchBytes s n k = (bs, some e) := by
  induction bs with
  | nil =>
    intro n k hlen _ hstop
    obtain ⟨n, rfl⟩ := Nat.exists_eq_add_one_of_ne_zero hlen.ne'
    have hk : fetchByte s k = .error e := hstop
    simp [fetchBytes, hk]
  | cons b bs ih =>
    intro n k hlen hfetch hstop
    obtain ⟨n, rfl⟩ := Nat.exists_eq_add_one_of_ne_zero (Nat.ne_zero_of_lt hlen)
    have hb : fetchByte s k = .ok b := hfetch 0 b rfl
    have hrest : fetchBytes s n (k + 1) = (bs, some e) := by
      refine ih n (k + 1) (Nat.lt_of_succ_lt_succ hlen) (fun j c hc => ?_) ?_
      · rw [Nat.add_right_comm]
        exact hfetch (j + 1) c hc
      · rw [Nat.add_right_comm]
        exact hstop
    simp [fetchBytes, hb, hrest]

/-- A byte that the instruction needs and that cannot be fetched stops the step. -/
theorem step_of_needsByte (s : State) (k : Nat) (e : Stop) (hneed : NeedsByte s k) (hstop : fetchByte s k = .error e) :
    step s = finish (.error e) := by
  obtain ⟨hk, bs, rfl, hfetch, htrunc⟩ := hneed
  have hbytes : fetchBytes s Config.maxInsnLen 0 = (bs, some e) :=
    fetchBytes_eq_of_stop s e bs Config.maxInsnLen 0 hk
      (fun j b hb => by simpa using (fetchByte_iff_fetches s j b).2 (hfetch j b hb)) (by simpa using hstop)
  simp [step, fetchInstr, hbytes, htrunc]

theorem fetchByte_beyond_limit (s : State) (k : Nat) (h : s.cs.limit < fetchOffset s k) :
    fetchByte s k = raiseOffsetGp s := if_pos h

/-- Within the limit, a byte is fetched as it is translated and read. -/
theorem fetchByte_within_limit (s : State) (k : Nat) (h : fetchOffset s k ≤ s.cs.limit) :
    fetchByte s k = translateLinear s (fetchAddress s k) >>= readPhysical s := by
  rw [fetchByte, if_neg (BitVec.not_lt.2 h), fetchAddress]
  cases translateLinear s (lin s.cs (fetchOffset s k)) <;> rfl

/-- Settles O55: a needed byte beyond the limit raises the `#GP` of the mode. -/
theorem fetchBeyondLimit : Obligations.FetchBeyondLimit := by
  intro s k hneed hlimit
  have hstep : step s = raises .gp (if s.mode = .real then none else some 0) s :=
    step_of_needsByte s k _ hneed (fetchByte_beyond_limit s k hlimit)
  constructor
  · intro hreal
    rwa [if_pos hreal] at hstep
  · intro hm
    rwa [if_neg hm] at hstep

/-- Settles O56: a needed byte within the limit stops the step where its translation or its read does. -/
theorem fetchStopsAtByte : Obligations.FetchStopsAtByte := by
  intro s k hneed hlimit addr
  have hbyte : fetchByte s k = translateLinear s addr >>= readPhysical s := fetchByte_within_limit s k hlimit
  refine ⟨fun code hfault => ?_, fun a ha hnone => ?_⟩
  · refine step_of_needsByte s k (.fault (.exception .pf (some code) s.eip)) hneed ?_
    rw [hbyte, translateLinear_of_faults s addr code hfault]
    rfl
  · refine step_of_needsByte s k (.fault (.undefinedRead a s.eip)) hneed ?_
    rw [hbyte, (translateLinear_iff_translatesTo s addr a).2 ha]
    simp [bind, Except.bind, readPhysical, hnone]

/-! ### Every stop of an instruction's meaning (R199, R220) -/

/-- How an instruction's meaning stops: `#UD` of FF /5 with a register (R98), `#SS(0)` of an operand through SS, a `#GP`
of an offset, a read of memory, or what a far jump in Protected mode does with its pointer. -/
inductive ExecStop (i : Instr) (s : State) : Stop → Prop where
  | invalidOpcode (p : Prefixes) (r : GReg) (hi : i = .jmpM16x16 p (.reg r) ∨ i = .jmpM16x32 p (.reg r)) :
      ExecStop i s (.fault (.exception .ud none s.eip))
  | stackSegment (hm : s.mode = .prot) : ExecStop i s (.fault (.exception .ss (some 0) s.eip))
  | offset : ExecStop i s (.fault (.exception .gp (if s.mode = .real then none else some 0) s.eip))
  | read (e : Stop) (he : ReadStop s e) : ExecStop i s e
  | far (e : Stop) (hi : isFarJmp i = true) (hm : s.mode = .prot) (he : FarStop s e) : ExecStop i s e

/-- In Protected mode the `#GP` of an offset has code 0. -/
theorem ExecStop.offsetProtected (i : Instr) (s : State) (hm : s.mode = .prot) :
    ExecStop i s (.fault (.exception .gp (some 0) s.eip)) := by
  simpa [hm] using ExecStop.offset (i := i) (s := s)

theorem execStop_of_segRead (i : Instr) (s : State) (w : Nat) (r : SReg) (off : Word32) (n : Nat) (e : Stop)
    (h : segRead s w r off n = .error e) : ExecStop i s e := by
  obtain ⟨hm, -, rfl⟩ | rfl | hread := segRead_stop s w r off n e h
  · exact .stackSegment hm
  · exact .offset
  · exact .read e hread

/-- An operand stops its instruction in memory, or where a register is no operand. -/
theorem execStop_of_readRm (i : Instr) (p : Prefixes) (rm : RegMem) (w n : Nat) (ofReg : GReg → Res (BitVec w))
    (s : State) (e : Stop) (hreg : ∀ r, rm = .reg r → ofReg r = .error e → ExecStop i s e)
    (h : readRm p rm w n ofReg s = .error e) : ExecStop i s e := by
  cases rm with
  | reg r => exact hreg r rfl h
  | mem16 m | mem32 m => exact execStop_of_segRead i s w _ _ n e h

/-- A register operand of a near jump is read in every state (R168). -/
theorem execStop_of_readRm_ok (i : Instr) (p : Prefixes) (rm : RegMem) (w n : Nat) (value : GReg → BitVec w)
    (s : State) (e : Stop) (h : readRm p rm w n (fun r => .ok (value r)) s = .error e) : ExecStop i s e :=
  execStop_of_readRm i p rm w n _ s e (fun _ _ hreg => by cases hreg) h

theorem execStop_of_readFarPointer (i : Instr) (p : Prefixes) (rm : RegMem) (w n : Nat) (s : State) (e : Stop)
    (hi : i = .jmpM16x16 p rm ∨ i = .jmpM16x32 p rm) (h : readFarPointer p rm w n s = .error e) : ExecStop i s e := by
  refine execStop_of_readRm i p rm w n _ s e (fun r hr hud => ?_) h
  subst hr
  cases hud
  exact .invalidOpcode p r hi

theorem execStop_of_jumpNear (i : Instr) (t : Word32) (s : State) (e : Stop) (h : jumpNear t s = .error e) :
    ExecStop i s e := by
  obtain ⟨hm, -, rfl⟩ := jumpNear_eq_error t s e h
  exact .offsetProtected i s hm

theorem execStop_of_jumpRelative (i : Instr) (taken : Bool) (w : Size) (len : Nat) (disp : Word32) (s : State)
    (e : Stop) (h : jumpRelative taken w len disp s = .error e) : ExecStop i s e := by
  obtain ⟨-, hm, -, rfl⟩ := jumpRelative_eq_error taken w len disp s e h
  exact .offsetProtected i s hm

theorem execStop_of_farJump (i : Instr) (w : Size) (sel : Word16) (off : Word32) (s : State) (e : Stop)
    (hi : isFarJmp i = true) (h : farJump w sel off s = .error e) : ExecStop i s e := by
  obtain ⟨hm, hfar⟩ := farJump_stop w sel off s e h
  exact .far e hi hm hfar

theorem finish_injective : Function.Injective finish := by
  intro r u h
  rcases u with (f | q) | t
  · exact (finish_eq_fault r f).1 h
  · exact (finish_eq_refused r q).1 h
  · exact (finish_eq_next r t).1 h

theorem map_eq_error {α β : Type} (f : α → β) (v : Res α) (e : Stop) (h : v.map f = .error e) : v = .error e := by
  cases v with
  | error d =>
    cases h
    rfl
  | ok v => cases h

theorem jumpIndirect_stop (v : Res Word32) (s : State) (e : Stop) (h : jumpIndirect v s = finish (.error e)) :
    v = .error e ∨ ∃ t, jumpNear t s = .error e := by
  cases v with
  | error d =>
    cases finish_injective h
    exact .inl rfl
  | ok t => exact .inr ⟨t, finish_injective h⟩

theorem execStop_of_jumpIndirect (i : Instr) (v : Res Word32) (s : State) (e : Stop)
    (hv : v = .error e → ExecStop i s e) (h : jumpIndirect v s = finish (.error e)) : ExecStop i s e := by
  obtain he | ⟨t, ht⟩ := jumpIndirect_stop v s e h
  · exact hv he
  · exact execStop_of_jumpNear i t s e ht

theorem exec_nearJmp_stop (i : Instr) (s : State) (e : Stop) (hi : isNearJmp i = true)
    (h : exec i s = finish (.error e)) : ExecStop i s e := by
  unfold isNearJmp at hi
  split at hi
  case h_1 | h_2 | h_3 => exact execStop_of_jumpRelative _ _ _ _ _ s e (finish_injective h)
  case h_4 p rm =>
    refine execStop_of_jumpIndirect _ _ s e (fun hv => ?_) h
    exact execStop_of_readRm_ok _ p rm 16 2 s.reg16 s e (map_eq_error _ _ e hv)
  case h_5 p rm => exact execStop_of_jumpIndirect _ _ s e (execStop_of_readRm_ok _ p rm 32 4 s.reg32 s e) h
  case h_6 => cases hi

theorem exec_farJmp_stop (i : Instr) (s : State) (e : Stop) (hi : isFarJmp i = true)
    (h : exec i s = finish (.error e)) : ExecStop i s e := by
  have hfar := hi
  unfold isFarJmp at hi
  split at hi
  case h_1 | h_2 => exact execStop_of_farJump _ _ _ _ s e hfar (finish_injective h)
  case h_3 p rm | h_4 p rm =>
    simp only [exec, execJmpM16x16, execJmpM16x32] at h
    split at h
    · rename_i hread
      cases finish_injective h
      exact execStop_of_readFarPointer _ p rm _ _ s e (by simp) hread
    · exact execStop_of_farJump _ _ _ _ s e hfar (finish_injective h)
  case h_5 => cases hi

/-- Everything that can stop an instruction's meaning. -/
theorem exec_stop (i : Instr) (s : State) (e : Stop) (h : exec i s = finish (.error e)) : ExecStop i s e := by
  cases hfar : isFarJmp i with
  | true => exact exec_farJmp_stop i s e hfar h
  | false =>
    cases hnear : isNearJmp i with
    | true => exact exec_nearJmp_stop i s e hnear h
    | false =>
      have hcond : (conditional i s).isSome = true := by simp [conditional_isSome, hfar, hnear]
      obtain ⟨⟨disp, len, w, taken⟩, hq⟩ := Option.isSome_iff_exists.1 hcond
      rw [exec_of_conditional i s disp len w taken hq] at h
      exact execStop_of_jumpRelative i taken w len disp s e (finish_injective h)

/-! ### Every stop of a step (R226, R228, R229) -/

/-- The fetch stops with a refusal of the decoder or at a byte that cannot be fetched. -/
theorem fetchInstr_stop (s : State) (e : Stop) (h : fetchInstr s = .error e) :
    (∃ r, e = .refused (decodeRefusal r s)) ∨ ∃ j, fetchByte s j = .error e := by
  unfold fetchInstr at h
  split at h
  · cases h
  · rename_i r _
    cases h
    exact .inl ⟨r, rfl⟩
  · split at h
    · rename_i he
      cases h
      exact .inr (fetchBytes_stop s _ 0 e he)
    · cases h
      exact .inl ⟨.instructionTooLong, rfl⟩

/-- A step stops at its fetch or in the meaning of the instruction fetched (R11, R12). -/
theorem step_stop (s : State) (e : Stop) (h : step s = finish (.error e)) :
    fetchInstr s = .error e ∨ ∃ i, fetchInstr s = .ok i ∧ ExecStop i s e := by
  unfold step at h
  split at h
  · rename_i i hi
    exact .inr ⟨i, hi, exec_stop i s e h⟩
  · rename_i he
    cases finish_injective h
    exact .inl he

/-! ### No page fault in Real mode (R55, R58) -/

theorem not_readStop_pageFault_real (s : State) (code : Option Word32) (pc : Word32) (hreal : s.mode = .real) :
    ¬ ReadStop s (.fault (.exception .pf code pc)) := by
  rintro (⟨_, _, hm, -⟩ | ⟨_, -, he⟩)
  · exact hm hreal
  · cases he

theorem fetchByte_ne_pageFault_real (s : State) (k : Nat) (code : Option Word32) (pc : Word32)
    (hreal : s.mode = .real) : fetchByte s k ≠ .error (.fault (.exception .pf code pc)) := by
  intro h
  obtain ⟨-, he⟩ | hread := fetchByte_stop s k _ h
  · cases he
  · exact not_readStop_pageFault_real s code pc hreal hread

theorem not_execStop_pageFault_real (i : Instr) (s : State) (code : Option Word32) (pc : Word32)
    (hreal : s.mode = .real) : ¬ ExecStop i s (.fault (.exception .pf code pc)) := by
  intro h
  cases h with
  | read _ hread => exact not_readStop_pageFault_real s code pc hreal hread
  | far _ _ hm _ => simp [hreal] at hm

/-- Settles O32: of the ways a step stops, only a read of memory is a `#PF`, and none in Real mode. -/
theorem noPageFaultInRealMode : Obligations.NoPageFaultInRealMode := by
  intro s code pc hreal h
  obtain hfetch | ⟨i, -, hexec⟩ := step_stop s (.fault (.exception .pf code pc)) h
  · obtain ⟨r, hr⟩ | ⟨j, hj⟩ := fetchInstr_stop s _ hfetch
    · cases hr
    · exact fetchByte_ne_pageFault_real s j code pc hreal hj
  · exact not_execStop_pageFault_real i s code pc hreal hexec

end Sys2Proof.Machine

/-! PROOFS. Selectors and descriptors as numbers and bytes (`20_memory.md` R62 to R67; `60_exceptions.md` R223). -/

namespace Sys2Proof.Machine

open Sys2Proof.Claims

/-! ### Selectors (R62, R63, R223) -/

theorem selIndex_eq (sel : Word16) : selIndex sel = sel.toNat / 8 := by
  have hlt := sel.isLt
  rw [selIndex, BitVec.extractLsb'_toNat, Nat.shiftRight_eq_div_pow]
  omega

theorem selRpl_toNat (sel : Word16) : (selRpl sel).toNat = sel.toNat % 4 := by
  simp [selRpl, BitVec.extractLsb'_toNat]

theorem selLocal_iff (sel : Word16) : selLocal sel = true ↔ sel.toNat / 4 % 2 = 1 := by
  simp [selLocal, BitVec.getLsbD, Nat.testBit_eq_decide_div_mod_eq]

/-- FFFCH keeps every bit of a selector but the two of its RPL field. -/
theorem getLsbD_clearRpl : ∀ i : Fin 16, (0xFFFC : Word16).getLsbD i = decide (2 ≤ i.val) := by decide

theorem clearRpl_eq_shift (sel : Word16) : sel &&& (0xFFFC : Word16) = sel >>> 2 <<< 2 := by
  refine BitVec.eq_of_getLsbD_eq fun i hi => ?_
  rw [BitVec.getLsbD_and, getLsbD_clearRpl ⟨i, hi⟩]
  by_cases h2 : 2 ≤ i
  · simp [hi, show ¬ i < 2 by omega, show 2 + (i - 2) = i by omega, h2]
  · simp [h2, show i < 2 by omega]

theorem clearRpl_toNat (sel : Word16) : (sel &&& 0xFFFC).toNat = sel.toNat / 4 * 4 := by
  have hlt := sel.isLt
  rw [clearRpl_eq_shift, BitVec.toNat_shiftLeft, BitVec.toNat_ushiftRight, Nat.shiftRight_eq_div_pow,
    Nat.shiftLeft_eq]
  omega

theorem isNull_eq_decide (sel : Word16) : isNull sel = decide (sel.toNat < 4) := by
  rw [isNull, beq_eq_decide, decide_eq_decide, ← BitVec.toNat_inj, clearRpl_toNat]
  change sel.toNat / 4 * 4 = 0 ↔ sel.toNat < 4
  omega

theorem errSel_toNat (sel : Word16) : (errSel sel).toNat = sel.toNat / 4 * 4 := by
  have hlt := sel.isLt
  rw [errSel, BitVec.toNat_setWidth, clearRpl_toNat]
  omega

/-- Settles O33: each field as a quotient or a remainder of the selector's number. -/
theorem selectorFields : Obligations.SelectorFields := by
  intro sel
  refine ⟨?_, isNull_eq_decide sel, errSel_toNat sel⟩
  rw [selIndex_eq, selRpl_toNat]
  by_cases hl : selLocal sel = true
  · have hti := (selLocal_iff sel).1 hl
    rw [if_pos hl]
    omega
  · have hti := mt (selLocal_iff sel).2 hl
    rw [if_neg hl]
    omega

/-! ### Descriptor tables (R64) -/

/-- Settles O34: the local bit and the index are the quotients that the statement writes. -/
theorem descriptorLookup : Obligations.DescriptorLookup := by
  intro s sel
  have haddr : tableBase s sel + BitVec.ofNat 32 (selIndex sel * 8) = descriptorAddress s sel := by
    simp only [tableBase, descriptorAddress, selLocal_iff, selIndex_eq]
  refine ⟨?_, by rw [readDescriptor, haddr]⟩
  by_cases hl : selLocal sel = true
  · rw [if_pos ((selLocal_iff sel).1 hl)]
    simp [inTable, tableLimit, hl, selIndex_eq]
  · rw [if_neg (mt (selLocal_iff sel).2 hl)]
    simp [inTable, tableLimit, hl, selIndex_eq]

/-! ### Descriptor fields (R65 to R67) -/

/-- The two tables of R66 agree: code is type 8 and above, conforming code type 12 and above. -/
theorem kindOfAr_eq_kindRow (ar : Byte) : kindOfAr ar = kindRow (ar.toNat / 16 % 2) (ar.toNat % 16) := by
  have hbit : ∀ i, ar.getLsbD i = decide (ar.toNat / 2 ^ i % 2 = 1) := fun i => Nat.testBit_eq_decide_div_mod_eq
  have htype : (ar.extractLsb' 0 4).toNat = ar.toNat % 16 := by simp [BitVec.extractLsb'_toNat]
  simp only [kindOfAr, kindRow, hbit, htype]
  by_cases hs : ar.toNat / 16 % 2 = 1
  · have hcode : ar.toNat / 8 % 2 = 1 ↔ 8 ≤ ar.toNat % 16 := by omega
    by_cases h12 : 12 ≤ ar.toNat % 16
    · have h8 : 8 ≤ ar.toNat % 16 := by omega
      have hconforming : ar.toNat / 4 % 2 = 1 := by omega
      simp [hs, hcode, hconforming, h12, h8]
    · have hconforming : 8 ≤ ar.toNat % 16 → ar.toNat / 4 % 2 ≠ 1 := by omega
      by_cases h8 : 8 ≤ ar.toNat % 16
      · simp [hs, hcode, hconforming h8, h12, h8]
      · simp [hs, hcode, h12, h8]
  · have hlt : ar.toNat % 16 < 16 := Nat.mod_lt _ (by decide)
    simp only [Nat.reducePow, hs, decide_false, Bool.false_eq_true, if_false]
    generalize ar.toNat % 16 = type at hlt
    interval_cases type <;> rfl

theorem toNat_append_eq_add {m n : Nat} (x : BitVec m) (y : BitVec n) :
    (x ++ y).toNat = x.toNat * 2 ^ n + y.toNat := by
  rw [BitVec.toNat_append, ← Nat.shiftLeft_add_eq_or_of_lt y.isLt, Nat.shiftLeft_eq]

section

variable (b0 b1 b2 b3 b4 b5 b6 b7 : Byte)

/-- The descriptor in the eight bytes of a table entry, lowest address first (R65). -/
def descriptorOfBytes : BitVec 64 := leWord 64 [b0, b1, b2, b3, b4, b5, b6, b7]

theorem descBase_ofBytes : descBase (descriptorOfBytes b0 b1 b2 b3 b4 b5 b6 b7) = b7 ++ b4 ++ b3 ++ b2 := by
  have hhigh := extractLsb'_leWord_bytes 64 7 1 [b0, b1, b2, b3, b4, b5, b6, b7] (by decide)
  have hlow := extractLsb'_leWord_bytes 64 2 3 [b0, b1, b2, b3, b4, b5, b6, b7] (by decide)
  calc descBase (descriptorOfBytes b0 b1 b2 b3 b4 b5 b6 b7)
      = leWord 8 [b7] ++ leWord 24 [b2, b3, b4] := congrArg₂ (· ++ ·) hhigh hlow
    _ = leWord 32 [b2, b3, b4, b7] := leWord_append 8 [b2, b3, b4] [b7]
    _ = b7 ++ b4 ++ b3 ++ b2 := leWord_four_bytes b2 b3 b4 b7

theorem descAr_ofBytes : descAr (descriptorOfBytes b0 b1 b2 b3 b4 b5 b6 b7) = b5 :=
  extractLsb'_leWord 64 _ 5 b5 (by decide) rfl

theorem gateSelector_ofBytes : gateSelector (descriptorOfBytes b0 b1 b2 b3 b4 b5 b6 b7) = b3 ++ b2 :=
  (extractLsb'_leWord_bytes 64 2 2 _ (by decide)).trans (leWord_two_bytes b2 b3)

theorem descD_ofBytes : descD (descriptorOfBytes b0 b1 b2 b3 b4 b5 b6 b7) = b6.getLsbD 6 := by
  rw [descD, descriptorOfBytes, getLsbD_leWord]
  simp

theorem descRawLimit_toNat :
    (descRawLimit (descriptorOfBytes b0 b1 b2 b3 b4 b5 b6 b7)).toNat =
      b6.toNat % 16 * 2 ^ 16 + b1.toNat * 2 ^ 8 + b0.toNat := by
  have hlow : (descriptorOfBytes b0 b1 b2 b3 b4 b5 b6 b7).extractLsb' 0 16 = b1 ++ b0 :=
    (extractLsb'_leWord_bytes 64 0 2 _ (by decide)).trans (leWord_two_bytes b0 b1)
  have hb6 : ((descriptorOfBytes b0 b1 b2 b3 b4 b5 b6 b7).extractLsb' 48 8).toNat = b6.toNat :=
    congrArg BitVec.toNat (extractLsb'_leWord 64 _ 6 b6 (by decide) rfl)
  have hhigh : ((descriptorOfBytes b0 b1 b2 b3 b4 b5 b6 b7).extractLsb' 48 4).toNat = b6.toNat % 16 := by
    rw [← hb6, BitVec.extractLsb'_toNat, BitVec.extractLsb'_toNat]
    exact (Nat.mod_mod_of_dvd _ (by decide)).symm
  rw [descRawLimit, hlow, toNat_append_eq_add, toNat_append_eq_add, hhigh]
  omega

/-- The limit in bytes: with the granularity bit, bit 7 of byte 6, in units of 4096 (R65). -/
theorem descLimit_ofBytes :
    (descLimit (descriptorOfBytes b0 b1 b2 b3 b4 b5 b6 b7)).toNat =
      if b6.getLsbD 7 then (b6.toNat % 16 * 2 ^ 16 + b1.toNat * 2 ^ 8 + b0.toNat) * 4096 + 4095
      else b6.toNat % 16 * 2 ^ 16 + b1.toNat * 2 ^ 8 + b0.toNat := by
  have hgran : (descriptorOfBytes b0 b1 b2 b3 b4 b5 b6 b7).getLsbD 55 = b6.getLsbD 7 := by
    rw [descriptorOfBytes, getLsbD_leWord]
    simp
  have hraw := descRawLimit_toNat b0 b1 b2 b3 b4 b5 b6 b7
  have hlt := (descRawLimit (descriptorOfBytes b0 b1 b2 b3 b4 b5 b6 b7)).isLt
  rw [← hraw, descLimit, hgran]
  split_ifs
  · rw [BitVec.toNat_add, BitVec.toNat_mul, BitVec.toNat_setWidth]
    change (_ % 2 ^ 32 * 4096 % 2 ^ 32 + 4095) % 2 ^ 32 = _
    omega
  · rw [BitVec.toNat_setWidth]
    omega

theorem descPresent_iff (d : BitVec 64) : descPresent d = true ↔ 128 ≤ (descAr d).toNat := by
  rw [descPresent, BitVec.getLsbD, Nat.testBit_eq_decide_div_mod_eq, decide_eq_true_iff]
  omega

theorem descDpl_toNat (d : BitVec 64) : (descDpl d).toNat = (descAr d).toNat / 32 % 4 := by
  rw [descDpl, BitVec.extractLsb'_toNat, Nat.shiftRight_eq_div_pow]

theorem gateOffset_callGate32 (h : descKind (descriptorOfBytes b0 b1 b2 b3 b4 b5 b6 b7) = .callGate32) :
    gateOffset (descriptorOfBytes b0 b1 b2 b3 b4 b5 b6 b7) = b7 ++ b6 ++ b1 ++ b0 := by
  have hhigh := extractLsb'_leWord_bytes 64 6 2 [b0, b1, b2, b3, b4, b5, b6, b7] (by decide)
  have hlow := extractLsb'_leWord_bytes 64 0 2 [b0, b1, b2, b3, b4, b5, b6, b7] (by decide)
  rw [gateOffset, h]
  calc (descriptorOfBytes b0 b1 b2 b3 b4 b5 b6 b7).extractLsb' 48 16 ++
        (descriptorOfBytes b0 b1 b2 b3 b4 b5 b6 b7).extractLsb' 0 16
      = leWord 16 [b6, b7] ++ leWord 16 [b0, b1] := congrArg₂ (· ++ ·) hhigh hlow
    _ = leWord 32 [b0, b1, b6, b7] := leWord_append 16 [b0, b1] [b6, b7]
    _ = b7 ++ b6 ++ b1 ++ b0 := leWord_four_bytes b0 b1 b6 b7

theorem gateOffset_callGate16 (h : descKind (descriptorOfBytes b0 b1 b2 b3 b4 b5 b6 b7) = .callGate16) :
    gateOffset (descriptorOfBytes b0 b1 b2 b3 b4 b5 b6 b7) = (b1 ++ b0).setWidth 32 := by
  have hlow := extractLsb'_leWord_bytes 64 0 2 [b0, b1, b2, b3, b4, b5, b6, b7] (by decide)
  rw [gateOffset, h]
  exact congrArg (BitVec.setWidth 32) (hlow.trans (leWord_two_bytes b0 b1))

end

/-- Settles O35: the eight joined bytes are `descriptorOfBytes`, whose fields are read off one by one. -/
theorem descriptorFields : Obligations.DescriptorFields := by
  intro b0 b1 b2 b3 b4 b5 b6 b7 d raw
  have hd : d = descriptorOfBytes b0 b1 b2 b3 b4 b5 b6 b7 := (leWord_eight_bytes b0 b1 b2 b3 b4 b5 b6 b7).symm
  have har : descAr (descriptorOfBytes b0 b1 b2 b3 b4 b5 b6 b7) = b5 := descAr_ofBytes ..
  rw [hd]
  refine ⟨descBase_ofBytes .., descLimit_ofBytes .., har, descD_ofBytes .., gateSelector_ofBytes .., ?_, ?_, ?_,
    gateOffset_callGate32 _ _ _ _ _ _ _ _, gateOffset_callGate16 _ _ _ _ _ _ _ _⟩
  · rw [descPresent_iff, har]
  · rw [descDpl_toNat, har]
  · rw [descKind, har, kindOfAr_eq_kindRow]

end Sys2Proof.Machine

/-! PROOFS. Decoder and encoder as inverses (`30_encoding.md` R80 to R96): the bytes that the decoder takes for an
instruction are its prefixes, in any order, and the encoding of what follows them. The length of a decoded instruction
and its well-formedness are read off from that. -/

namespace Sys2Proof

/-! ### Encodings decode (R80 to R96, R104) -/

/-- Settles O1: operand by operand in `RegMem.decode_bytes`, format by format in `decodeOpcode_bytes`, behind the
prefixes by `decode_prefixes`. -/
theorem decodeEncodeAgree : Obligations.DecodeEncodeAgree := decode_encode

/-- Settles O4: the decoder answers the same with more bytes behind, unless it ran out of bytes. -/
theorem decodingIgnoresLaterBytes : Obligations.DecodingIgnoresLaterBytes := by
  intro dflt bs rest more i
  refine ⟨decode_append_ok dflt bs rest more i, fun r h => ?_⟩
  rw [decode_stable dflt bs more (by simp [h]), h, Decoded.extend_refused]

/-! ### Codes of fields (R20, R85, R92, R93) -/

@[simp] theorem GReg.code_ofCode (n : BitVec 3) : (GReg.ofCode n).code = n := by revert n; decide
@[simp] theorem Cond.code_ofCode (n : BitVec 4) : (Cond.ofCode n).code = n := by revert n; decide
@[simp] theorem Base16.code_ofCode (n : BitVec 3) : (Base16.ofCode n).code = n := by revert n; decide
@[simp] theorem Scale.code_ofCode (n : BitVec 2) : (Scale.ofCode n).code = n := by revert n; decide
@[simp] theorem indexCode_indexOfCode (n : BitVec 3) : indexCode (indexOfCode n) = n := by revert n; decide
@[simp] theorem indexOk_indexOfCode (n : BitVec 3) : indexOk (indexOfCode n) = true := by revert n; decide

theorem opcode_of_high (b : Byte) (n : BitVec 4) (h : b.extractLsb' 4 4 = n) :
    n ++ (b.extractLsb' 0 4 : BitVec 4) = b := by
  subst h
  exact BitVec.extractLsb'_append_extractLsb' (w := 4) (len := 4)

theorem modRM_split (b : Byte) : modRM (b.extractLsb' 6 2) (b.extractLsb' 3 3) (b.extractLsb' 0 3) = b := by
  revert b; decide

theorem sibByte_of_base (b : Byte) (base : BitVec 3) (h : b.extractLsb' 0 3 = base) :
    sibByte (Scale.ofCode (b.extractLsb' 6 2)) (indexOfCode (b.extractLsb' 3 3)) base = b := by
  rw [sibByte, Scale.code_ofCode, indexCode_indexOfCode, ← h]
  exact modRM_split b

/-! ### What the stream readers take (R53, R83, R84) -/

theorem leBytes16_word16 (b0 b1 : Byte) : leBytes16 (word16 b0 b1) = [b0, b1] := by
  have h0 : (word16 b0 b1).extractLsb' 0 8 = b0 := BitVec.extractLsb'_append_eq_right
  have h1 : (word16 b0 b1).extractLsb' 8 8 = b1 := BitVec.extractLsb'_append_eq_left
  rw [leBytes16, h0, h1]

/-- Byte by byte from the low end: `habove` drops the lowest part of what is left. -/
theorem leBytes32_word32 (b0 b1 b2 b3 : Byte) : leBytes32 (word32 b0 b1 b2 b3) = [b0, b1, b2, b3] := by
  have habove : ∀ {v w n k : Nat} {x : BitVec v} {y : BitVec w},
      (x ++ y).extractLsb' (w + k) n = x.extractLsb' k n := fun {v w n k x y} => by
    rw [BitVec.extractLsb'_append_eq_of_le (Nat.le_add_right w k), Nat.add_sub_cancel_left]
  have h0 : (word32 b0 b1 b2 b3).extractLsb' 0 8 = b0 := BitVec.extractLsb'_append_eq_right
  have h1 : (word32 b0 b1 b2 b3).extractLsb' 8 8 = b1 := habove.trans BitVec.extractLsb'_append_eq_right
  have h2 : (word32 b0 b1 b2 b3).extractLsb' 16 8 = b2 :=
    habove.trans (habove.trans BitVec.extractLsb'_append_eq_right)
  have h3 : (word32 b0 b1 b2 b3).extractLsb' 24 8 = b3 :=
    habove.trans (habove.trans BitVec.extractLsb'_append_eq_left)
  rw [leBytes32, h0, h1, h2, h3]

theorem takeByte_eq_some (bs rest : List Byte) (v : Byte) (h : takeByte bs = some (v, rest)) : bs = v :: rest := by
  cases bs with
  | nil => cases h
  | cons b r => cases h; rfl

theorem takeWord16_eq_some (bs rest : List Byte) (v : Word16) (h : takeWord16 bs = some (v, rest)) :
    bs = leBytes16 v ++ rest := by
  match bs, h with
  | b0 :: b1 :: r, h => cases h; rw [leBytes16_word16]; rfl

theorem takeWord32_eq_some (bs rest : List Byte) (v : Word32) (h : takeWord32 bs = some (v, rest)) :
    bs = leBytes32 v ++ rest := by
  match bs, h with
  | b0 :: b1 :: b2 :: b3 :: r, h => cases h; rw [leBytes32_word32]; rfl

/-- A reader that passes its value on through `g` has read a value. -/
theorem exists_of_map_eq_some {α β : Type} {o : Option (α × List Byte)} {g : α → β} {w : β} {rest : List Byte}
    (h : (o.map fun (v, r) => (g v, r)) = some (w, rest)) : ∃ v, o = some (v, rest) ∧ w = g v := by
  obtain ⟨⟨v, r⟩, hv, hw⟩ := Option.map_eq_some_iff.1 h
  obtain ⟨rfl, rfl⟩ := Prod.mk.inj hw
  exact ⟨v, hv, rfl⟩

theorem takePtr16_eq_some (bs rest : List Byte) (v : Word16 × Word16) (h : takePtr16 bs = some (v, rest)) :
    bs = leBytes16 v.1 ++ leBytes16 v.2 ++ rest := by
  unfold takePtr16 at h
  split at h
  next => cases h
  next off r hoff =>
    obtain ⟨sel, hsel, rfl⟩ := exists_of_map_eq_some h
    rw [takeWord16_eq_some _ _ _ hoff, takeWord16_eq_some _ _ _ hsel, List.append_assoc]

theorem takePtr32_eq_some (bs rest : List Byte) (v : Word32 × Word16) (h : takePtr32 bs = some (v, rest)) :
    bs = leBytes32 v.1 ++ leBytes16 v.2 ++ rest := by
  unfold takePtr32 at h
  split at h
  next => cases h
  next off r hoff =>
    obtain ⟨sel, hsel, rfl⟩ := exists_of_map_eq_some h
    rw [takeWord32_eq_some _ _ _ hoff, takeWord16_eq_some _ _ _ hsel, List.append_assoc]

/-! ### The operand that the decoder answers is the one its bytes encode (R90 to R93) -/

theorem Mem16.wellFormed_based (b : Base16) (d : Disp16) (h : b ≠ .bp ∨ d ≠ .none) :
    (Mem16.based b d).wellFormed = true := by
  cases b with
  | bp => cases d with
    | none => simp at h
    | d8 | d16 => rfl
  | _ => rfl

theorem Mem32.wellFormed_based (r : GReg) (d : Disp32) (hesp : r ≠ .esp) (hebp : ¬ (d = .none ∧ r = .ebp)) :
    (Mem32.based r d).wellFormed = true := by
  cases r with
  | esp => exact absurd rfl hesp
  | ebp => cases d with
    | none => exact absurd ⟨rfl, rfl⟩ hebp
    | d8 | d32 => rfl
  | _ => rfl

theorem Mem32.wellFormed_sib (s : Scale) (x : Option GReg) (r : GReg) (d : Disp32) (hx : indexOk x = true)
    (hebp : ¬ (d = .none ∧ r = .ebp)) : (Mem32.sib s x r d).wellFormed = true := by
  cases r with
  | ebp => cases d with
    | none => exact absurd ⟨rfl, rfl⟩ hebp
    | d8 | d32 => exact hx
  | _ => exact hx

theorem GReg.ofCode_eq_iff (n : BitVec 3) (r : GReg) : GReg.ofCode n = r ↔ n = r.code :=
  ⟨fun h => by rw [← h, code_ofCode], fun h => by rw [h, ofCode_code]⟩

theorem Base16.ofCode_eq_iff (n : BitVec 3) (b : Base16) : Base16.ofCode n = b ↔ n = b.code :=
  ⟨fun h => by rw [← h, code_ofCode], fun h => by rw [h, ofCode_code]⟩

theorem Disp32.mod_eq_zero_iff (d : Disp32) : d.mod = 0 ↔ d = .none := by
  cases d <;> simp [Disp32.mod]

theorem mod_eq_two (mod : BitVec 2) (h0 : mod ≠ 0) (h1 : mod ≠ 1) (h3 : mod ≠ 3) : mod = 2 := by
  revert mod; decide

theorem decodeMem16_eq_some (mod : BitVec 2) (rm digit : BitVec 3) (bs rest : List Byte) (m : Mem16) (h3 : mod ≠ 3)
    (h : decodeMem16 mod rm bs = some (m, rest)) :
    m.wellFormed = true ∧ modRM mod digit rm :: bs = m.bytes digit ++ rest := by
  unfold decodeMem16 at h
  split_ifs at h with h0 h6 h1
  · obtain ⟨d, hd, rfl⟩ := exists_of_map_eq_some h
    exact ⟨rfl, by simp [Mem16.bytes, h0, h6, takeWord16_eq_some _ _ _ hd]⟩
  · cases h
    refine ⟨Mem16.wellFormed_based _ _ (.inl ?_), by simp [Mem16.bytes, h0]⟩
    rwa [ne_eq, Base16.ofCode_eq_iff]
  · obtain ⟨d, hd, rfl⟩ := exists_of_map_eq_some (g := fun d => Mem16.based (Base16.ofCode rm) (.d8 d)) h
    exact ⟨Mem16.wellFormed_based _ _ (.inr nofun), by simp [Mem16.bytes, h1, takeByte_eq_some _ _ _ hd]⟩
  · obtain ⟨d, hd, rfl⟩ := exists_of_map_eq_some (g := fun d => Mem16.based (Base16.ofCode rm) (.d16 d)) h
    obtain rfl := mod_eq_two mod h0 h1 h3
    exact ⟨Mem16.wellFormed_based _ _ (.inr nofun), by simp [Mem16.bytes, takeWord16_eq_some _ _ _ hd]⟩

theorem decodeDisp32_eq_some (mod : BitVec 2) (bs rest : List Byte) (d : Disp32) (h3 : mod ≠ 3)
    (h : decodeDisp32 mod bs = some (d, rest)) : d.mod = mod ∧ bs = d.bytes ++ rest := by
  unfold decodeDisp32 at h
  split_ifs at h with h0 h1
  · cases h
    exact ⟨h0.symm, rfl⟩
  · obtain ⟨v, hv, rfl⟩ := exists_of_map_eq_some h
    exact ⟨h1.symm, takeByte_eq_some _ _ _ hv⟩
  · obtain ⟨v, hv, rfl⟩ := exists_of_map_eq_some h
    exact ⟨(mod_eq_two mod h0 h1 h3).symm, takeWord32_eq_some _ _ _ hv⟩

theorem decodeSib_eq_some (mod : BitVec 2) (digit : BitVec 3) (bs rest : List Byte) (m : Mem32) (h3 : mod ≠ 3)
    (h : decodeSib mod bs = some (m, rest)) :
    m.wellFormed = true ∧ modRM mod digit 4 :: bs = m.bytes digit ++ rest := by
  unfold decodeSib at h
  split at h
  next => cases h
  next sib r hsib =>
    obtain rfl := takeByte_eq_some _ _ _ hsib
    dsimp only at h
    split_ifs at h with hbase
    · obtain ⟨d, hd, rfl⟩ := exists_of_map_eq_some h
      have hsplit := sibByte_of_base sib 5#3 hbase.2
      exact ⟨indexOk_indexOfCode _, by simp [Mem32.bytes, hbase.1, hsplit, takeWord32_eq_some _ _ _ hd]⟩
    · obtain ⟨d, hd, rfl⟩ := exists_of_map_eq_some h
      obtain ⟨rfl, rfl⟩ := decodeDisp32_eq_some _ _ _ _ h3 hd
      have hsplit := sibByte_of_base sib _ rfl
      refine ⟨Mem32.wellFormed_sib _ _ _ _ (indexOk_indexOfCode _) ?_, by simp [Mem32.bytes, hsplit]⟩
      rwa [← d.mod_eq_zero_iff, GReg.ofCode_eq_iff]

theorem decodeMem32_eq_some (mod : BitVec 2) (rm digit : BitVec 3) (bs rest : List Byte) (m : Mem32) (h3 : mod ≠ 3)
    (h : decodeMem32 mod rm bs = some (m, rest)) :
    m.wellFormed = true ∧ modRM mod digit rm :: bs = m.bytes digit ++ rest := by
  unfold decodeMem32 at h
  split_ifs at h with h4 h5
  · rw [h4]
    exact decodeSib_eq_some mod digit bs rest m h3 h
  · obtain ⟨d, hd, rfl⟩ := exists_of_map_eq_some h
    exact ⟨rfl, by simp [Mem32.bytes, h5.1, h5.2, takeWord32_eq_some _ _ _ hd]⟩
  · obtain ⟨d, hd, rfl⟩ := exists_of_map_eq_some h
    obtain ⟨rfl, rfl⟩ := decodeDisp32_eq_some _ _ _ _ h3 hd
    refine ⟨Mem32.wellFormed_based _ _ ?_ ?_, by simp [Mem32.bytes]⟩
    · rwa [ne_eq, GReg.ofCode_eq_iff]
    · rwa [← d.mod_eq_zero_iff, GReg.ofCode_eq_iff]

theorem decodeRegMem_eq_some (dflt : Size) (p : Prefixes) (modrm : Byte) (bs rest : List Byte) (rm : RegMem)
    (hseg : p.seg.isNone = true ∨ rm.isMem = true)
    (h : decodeRegMem (p.addressSize dflt) modrm bs = some (rm, rest)) :
    rm.wellFormed dflt p = true ∧ modrm :: bs = rm.bytes (modrm.extractLsb' 3 3) ++ rest := by
  have hsplit := modRM_split modrm
  unfold decodeRegMem at h
  dsimp only at h
  split_ifs at h with h3
  · cases h
    exact ⟨hseg.resolve_right nofun, by simp [RegMem.bytes, ← h3, hsplit]⟩
  · cases hsize : p.addressSize dflt with
    | w16 =>
      rw [hsize] at h
      obtain ⟨m, hm, rfl⟩ := exists_of_map_eq_some h
      obtain ⟨hwf, hbytes⟩ := decodeMem16_eq_some _ _ (modrm.extractLsb' 3 3) _ _ _ h3 hm
      rw [hsplit] at hbytes
      exact ⟨by simp [RegMem.wellFormed, hsize, hwf], hbytes⟩
    | w32 =>
      rw [hsize] at h
      obtain ⟨m, hm, rfl⟩ := exists_of_map_eq_some h
      obtain ⟨hwf, hbytes⟩ := decodeMem32_eq_some _ _ (modrm.extractLsb' 3 3) _ _ _ h3 hm
      rw [hsplit] at hbytes
      exact ⟨by simp [RegMem.wellFormed, hsize, hwf], hbytes⟩

/-! ### The instruction that the decoder answers is the one its bytes encode (R85 to R88, R96) -/

theorem admitInstr_inv (p : Prefixes) (hasMem : Bool) (i j : Instr) (rest r : List Byte)
    (h : admitInstr p hasMem i rest = .ok j r) : (p.seg.isNone = true ∨ hasMem = true) ∧ j = i ∧ r = rest := by
  unfold admitInstr at h
  split_ifs at h with hseg hlen
  cases h
  refine ⟨?_, rfl, rfl⟩
  cases hp : p.seg <;> cases hasMem <;> simp_all

theorem admitTaken_inv {α : Type} (p : Prefixes) (build : α → Instr) (o : Option (α × List Byte)) (i : Instr)
    (rest : List Byte) (h : admitTaken p build o = .ok i rest) :
    p.seg.isNone = true ∧ ∃ v, o = some (v, rest) ∧ i = build v := by
  match o, h with
  | some (v, r), h =>
    obtain ⟨hseg, rfl, rfl⟩ := admitInstr_inv _ _ _ _ _ _ h
    exact ⟨hseg.resolve_right nofun, v, rfl, rfl⟩

/-- `bs` begins with the encoding of a well-formed shape `x` under the prefixes `p`; `i` is its instruction and `rest`
what is left. -/
def BeginsWith (dflt : Size) (p : Prefixes) (bs : List Byte) (i : Instr) (rest : List Byte) : Prop :=
  ∃ x : Shape, x.wellFormed dflt p = true ∧ i = x.instr p ∧ bs = x.bytes ++ rest

/-- An instruction without a memory operand, by the shape `x` that its reader's value makes. -/
theorem admitTaken_beginsWith {α : Type} {dflt : Size} {p : Prefixes} {build : α → Instr}
    {o : Option (α × List Byte)} {bs rest : List Byte} {i : Instr} (x : α → Shape)
    (h : admitTaken p build o = .ok i rest) (hbuild : ∀ v, build v = (x v).instr p)
    (hwf : p.seg.isNone = true → ∀ v, (x v).wellFormed dflt p = true)
    (hbytes : ∀ v, o = some (v, rest) → bs = (x v).bytes ++ rest) : BeginsWith dflt p bs i rest := by
  obtain ⟨hseg, v, hv, rfl⟩ := admitTaken_inv p build o i rest h
  exact ⟨x v, hwf hseg v, hbuild v, hbytes v hv⟩

theorem decodeFF_inv (dflt : Size) (p : Prefixes) (bs rest : List Byte) (i : Instr)
    (h : decodeFF dflt p bs = .ok i rest) : BeginsWith dflt p (0xFF :: bs) i rest := by
  unfold decodeFF at h
  split at h
  next => cases h
  next modrm r htake =>
    obtain rfl := takeByte_eq_some _ _ _ htake
    dsimp only at h
    by_cases hdigit : modrm.extractLsb' 3 3 = 4 ∨ modrm.extractLsb' 3 3 = 5
    case neg => rw [if_neg hdigit] at h; cases h
    rw [if_pos hdigit] at h
    split at h
    next => cases h
    next rm r' hrm =>
      obtain ⟨hseg, rfl, rfl⟩ := admitInstr_inv _ _ _ _ _ _ h
      obtain ⟨hwf, hbytes⟩ := decodeRegMem_eq_some _ _ _ _ _ _ hseg hrm
      rw [hbytes]
      rcases hdigit with hd | hd
      · refine ⟨.nearRm (p.operandSize dflt) rm, by simp [Shape.wellFormed, hwf], ?_, by rw [hd]; rfl⟩
        cases p.operandSize dflt <;> simp [hd, Shape.instr]
      · refine ⟨.farRm (p.operandSize dflt) rm, by simp [Shape.wellFormed, hwf], ?_, by rw [hd]; rfl⟩
        cases p.operandSize dflt <;> simp [hd, Shape.instr]

theorem decode0F_inv (dflt : Size) (p : Prefixes) (bs rest : List Byte) (i : Instr)
    (h : decode0F dflt p bs = .ok i rest) : BeginsWith dflt p (0x0F :: bs) i rest := by
  unfold decode0F at h
  split at h
  next => cases h
  next b r htake =>
    obtain rfl := takeByte_eq_some _ _ _ htake
    dsimp only at h
    split_ifs at h with hb
    have hsplit := opcode_of_high b 8#4 hb
    have hsized := fun w => p.okSized_iff dflt w
    cases hsize : p.operandSize dflt with
    | w16 =>
      rw [hsize] at h
      exact admitTaken_beginsWith (Shape.jcc16 _) h (fun _ => rfl) (fun hseg _ => (hsized _).2 ⟨hseg, hsize⟩)
        fun v hv => by simp [Shape.bytes, hsplit, takeWord16_eq_some _ _ _ hv]
    | w32 =>
      rw [hsize] at h
      exact admitTaken_beginsWith (Shape.jcc32 _) h (fun _ => rfl) (fun hseg _ => (hsized _).2 ⟨hseg, hsize⟩)
        fun v hv => by simp [Shape.bytes, hsplit, takeWord32_eq_some _ _ _ hv]

theorem decodeOpcode_inv (dflt : Size) (p : Prefixes) (bs rest : List Byte) (i : Instr)
    (h : decodeOpcode dflt p bs = .ok i rest) : BeginsWith dflt p bs i rest := by
  have hsized := fun w => p.okSized_iff dflt w
  have hcount := fun w => p.okCount_iff dflt w
  unfold decodeOpcode at h
  split at h
  next => cases h
  next b r htake =>
    obtain rfl := takeByte_eq_some _ _ _ htake
    split_ifs at h with h7 hE3 hEB hE9 hEA hFF h0F
    · have hsplit := opcode_of_high b 7#4 h7
      exact admitTaken_beginsWith (Shape.jcc8 _) h (fun _ => rfl) (fun hseg _ => hseg)
        fun v hv => by simp [Shape.bytes, hsplit, takeByte_eq_some _ _ _ hv]
    · cases hsize : Config.countSel (p.operandSize dflt) (p.addressSize dflt) with
      | w16 | w32 =>
        rw [hsize] at h
        exact admitTaken_beginsWith (Shape.count _) h (fun _ => rfl) (fun hseg _ => (hcount _).2 ⟨hseg, hsize⟩)
          fun v hv => by simp [Shape.bytes, hE3, takeByte_eq_some _ _ _ hv]
    · exact admitTaken_beginsWith Shape.jmp8 h (fun _ => rfl) (fun hseg _ => hseg)
        fun v hv => by simp [Shape.bytes, hEB, takeByte_eq_some _ _ _ hv]
    · cases hsize : p.operandSize dflt with
      | w16 =>
        rw [hsize] at h
        exact admitTaken_beginsWith Shape.jmp16 h (fun _ => rfl) (fun hseg _ => (hsized _).2 ⟨hseg, hsize⟩)
          fun v hv => by simp [Shape.bytes, hE9, takeWord16_eq_some _ _ _ hv]
      | w32 =>
        rw [hsize] at h
        exact admitTaken_beginsWith Shape.jmp32 h (fun _ => rfl) (fun hseg _ => (hsized _).2 ⟨hseg, hsize⟩)
          fun v hv => by simp [Shape.bytes, hE9, takeWord32_eq_some _ _ _ hv]
    · cases hsize : p.operandSize dflt with
      | w16 =>
        rw [hsize] at h
        exact admitTaken_beginsWith (fun v => Shape.ptr16 v.1 v.2) h (fun _ => rfl)
          (fun hseg _ => (hsized _).2 ⟨hseg, hsize⟩)
          fun v hv => by simp [Shape.bytes, hEA, takePtr16_eq_some _ _ _ hv]
      | w32 =>
        rw [hsize] at h
        exact admitTaken_beginsWith (fun v => Shape.ptr32 v.1 v.2) h (fun _ => rfl)
          (fun hseg _ => (hsized _).2 ⟨hseg, hsize⟩)
          fun v hv => by simp [Shape.bytes, hEA, takePtr32_eq_some _ _ _ hv]
    · rw [hFF]
      exact decodeFF_inv dflt p r rest i h
    · rw [h0F]
      exact decode0F_inv dflt p r rest i h

/-- `bs` is as many bytes as some prefixes `q` have over `p`, then the encoding of a well-formed shape under `q`. -/
def BeginsBehindPrefixes (dflt : Size) (p : Prefixes) (bs : List Byte) (i : Instr) (rest : List Byte) : Prop :=
  ∃ (q : Prefixes) (pre bs' : List Byte), bs = pre ++ bs' ∧ pre.length + p.count = q.count ∧
    BeginsWith dflt q bs' i rest

/-- One more byte in front, which takes the prefixes from `p` to `p'`. -/
theorem BeginsBehindPrefixes.cons {dflt : Size} {p p' : Prefixes} {b : Byte} {bs rest : List Byte} {i : Instr}
    (hcount : p'.count = p.count + 1) (h : BeginsBehindPrefixes dflt p' bs i rest) :
    BeginsBehindPrefixes dflt p (b :: bs) i rest := by
  obtain ⟨q, pre, bs', rfl, hq, hbegin⟩ := h
  exact ⟨q, b :: pre, bs', rfl, by rw [List.length_cons]; omega, hbegin⟩

theorem Prefixes.count_opSize (p : Prefixes) (h : ¬ p.opSize = true) :
    Prefixes.count { p with opSize := true } = p.count + 1 := by
  simp [Prefixes.count, h]; omega

theorem Prefixes.count_addrSize (p : Prefixes) (h : ¬ p.addrSize = true) :
    Prefixes.count { p with addrSize := true } = p.count + 1 := by
  simp [Prefixes.count, h]; omega

theorem Prefixes.count_seg (p : Prefixes) (x : SReg) (h : ¬ p.seg.isSome = true) :
    Prefixes.count { p with seg := some x } = p.count + 1 := by
  simp [Prefixes.count, h]

theorem decodeFrom_inv (dflt : Size) (p : Prefixes) (bs rest : List Byte) (i : Instr)
    (h : decodeFrom dflt p bs = .ok i rest) : BeginsBehindPrefixes dflt p bs i rest := by
  induction bs generalizing p with
  | nil => cases h
  | cons b r ih =>
    unfold decodeFrom at h
    split at h
    next => exact ⟨p, [], b :: r, rfl, Nat.zero_add _, decodeOpcode_inv dflt p (b :: r) rest i h⟩
    next =>
      split_ifs at h with hp
      exact (ih _ h).cons (p.count_opSize hp)
    next =>
      split_ifs at h with hp
      exact (ih _ h).cons (p.count_addrSize hp)
    next x _ =>
      split_ifs at h with hp
      exact (ih _ h).cons (p.count_seg x hp)
    next => cases h

/-- Settles O2: what the decoder answers is the instruction of a well-formed shape. -/
theorem decodedInstructionIsWellFormed : Obligations.DecodedInstructionIsWellFormed := by
  intro dflt bs rest i h
  obtain ⟨q, pre, bs', hbs, hcount, x, hwf, rfl, hbytes⟩ := decodeFrom_inv dflt _ bs rest i h
  rw [wellFormed_eq_parts, core_eq_instr, Shape.instr_parts]
  exact ⟨hwf, rfl⟩

theorem Shape.two_le_length (x : Shape) : 2 ≤ x.length := by
  cases x <;> simp [Shape.length]

/-- Settles O3: the bytes taken are `q.count` bytes of prefixes and the encoding of the shape. -/
theorem decodedLength : Obligations.DecodedLength := by
  intro dflt bs rest i h
  obtain ⟨q, pre, bs', rfl, hcount, x, hwf, rfl, rfl⟩ := decodeFrom_inv dflt _ bs rest i h
  have hlen : (x.instr q).length = (pre ++ x.bytes).length := by
    rw [Instr.length, Shape.instr_parts, List.length_append, Shape.bytes_length, ← hcount]
    rfl
  refine ⟨?_, ?_, ?_, Instr.length_le _⟩
  · rw [hlen, ← List.append_assoc]
    exact (List.prefix_append _ _).length_le
  · rw [hlen, ← List.append_assoc, List.drop_left]
  · rw [hlen, List.length_append, Shape.bytes_length]
    exact x.two_le_length.trans (Nat.le_add_left _ _)

/-! ### Synonyms (R89, R104) -/

theorem Instr.core_parts (i : Instr) : i.core.parts = i.parts := by
  rw [core_eq_instr, Shape.instr_parts]

/-- Settles O5: a synonym has its core row's meaning by `exec_core`, and its parts, of which bytes and core are made. -/
theorem synonymsRunTheSame : Obligations.SynonymsRunTheSame := by
  intro i s
  refine ⟨(Machine.exec_core i s).symm, ?_, ?_⟩
  · rw [encode, encode, i.core_parts]
  · rw [core_eq_instr i.core, i.core_parts, core_eq_instr]

end Sys2Proof

/-! PROOFS. What the decoder refuses by name (`30_encoding.md` R96, R97, R99, R100). -/

namespace Sys2Proof

open Sys2Proof.Claims

/-! ### Prefixes that are not modelled (R96, R97) -/

theorem decodeFrom_opSize (dflt : Size) (p : Prefixes) (r : List Byte) :
    decodeFrom dflt p (0x66#8 :: r) =
      if p.opSize then .refused .prefixNotModelled else decodeFrom dflt { p with opSize := true } r := rfl

theorem decodeFrom_addrSize (dflt : Size) (p : Prefixes) (r : List Byte) :
    decodeFrom dflt p (0x67#8 :: r) =
      if p.addrSize then .refused .prefixNotModelled else decodeFrom dflt { p with addrSize := true } r := rfl

theorem decodeFrom_override (dflt : Size) (p : Prefixes) (x : SReg) (r : List Byte) :
    decodeFrom dflt p (x.overrideByte :: r) =
      if p.seg.isSome then .refused .prefixNotModelled else decodeFrom dflt { p with seg := some x } r := by
  simp only [decodeFrom, prefixByte_override]

/-- LOCK, REPNE and REP (R95, R96). -/
theorem decodeFrom_lockRep (dflt : Size) (p : Prefixes) (b : Byte) (r : List Byte)
    (hb : b ∈ [0xF0#8, 0xF2#8, 0xF3#8]) : decodeFrom dflt p (b :: r) = .refused .prefixNotModelled := by
  simp only [List.mem_cons, List.not_mem_nil, or_false] at hb
  rcases hb with rfl | rfl | rfl <;> rfl

/-- `hasMemoryOperand` on the shape of an instruction (R96). -/
def Shape.hasMem : Shape → Bool
  | .nearRm _ rm | .farRm _ rm => rm.isMem
  | _ => false

theorem hasMemoryOperand_eq_parts (i : Instr) : hasMemoryOperand i = i.parts.2.hasMem := by
  cases i with
  | jmpRm16 p rm | jmpRm32 p rm | jmpM16x16 p rm | jmpM16x32 p rm => cases rm <;> rfl
  | _ => rfl

/-- An instruction without a memory operand has no segment override (R96). -/
theorem Shape.seg_isNone (dflt : Size) (p : Prefixes) (y : Shape) (hwf : y.wellFormed dflt p = true)
    (hmem : y.hasMem = false) : p.seg.isNone = true := by
  cases y with
  | jcc8 | jmp8 => exact hwf
  | jcc16 | jmp16 | ptr16 => exact ((p.okSized_iff dflt .w16).1 hwf).1
  | jcc32 | jmp32 | ptr32 => exact ((p.okSized_iff dflt .w32).1 hwf).1
  | count w d => exact ((p.okCount_iff dflt w).1 hwf).1
  | nearRm w rm | farRm w rm =>
    simp only [Shape.wellFormed, Bool.and_eq_true] at hwf
    exact (rm.isNone_or_isMem dflt p hwf.2).resolve_right (by simpa [Shape.hasMem] using hmem)

theorem admitInstr_override (p : Prefixes) (x : SReg) (i : Instr) (rest : List Byte) :
    admitInstr { p with seg := some x } false i rest = .refused .prefixNotModelled := rfl

/-- With an override in front, an instruction without a memory operand is read whole and then refused (R96). -/
theorem decodeOpcode_override (dflt : Size) (p : Prefixes) (x : SReg) (y : Shape) (rest : List Byte)
    (hwf : y.wellFormed dflt p = true) (hmem : y.hasMem = false) :
    decodeOpcode dflt { p with seg := some x } (y.bytes ++ rest) = .refused .prefixNotModelled := by
  have hsize : ({ p with seg := some x } : Prefixes).operandSize dflt = p.operandSize dflt := rfl
  have hasize : ({ p with seg := some x } : Prefixes).addressSize dflt = p.addressSize dflt := rfl
  cases y with
  | jcc8 | jmp8 => simp [Shape.bytes, decodeOpcode, opcode_high, admitTaken, admitInstr_override]
  | jcc16 | jmp16 | ptr16 =>
    obtain ⟨_, hw⟩ := (p.okSized_iff dflt .w16).1 hwf
    simp [Shape.bytes, decodeOpcode, decode0F, opcode_high, hsize, hw, admitTaken, admitInstr_override]
  | jcc32 | jmp32 | ptr32 =>
    obtain ⟨_, hw⟩ := (p.okSized_iff dflt .w32).1 hwf
    simp [Shape.bytes, decodeOpcode, decode0F, opcode_high, hsize, hw, admitTaken, admitInstr_override]
  | count w d =>
    obtain ⟨_, hw⟩ := (p.okCount_iff dflt w).1 hwf
    cases w <;> simp [Shape.bytes, decodeOpcode, hsize, hasize, hw, admitTaken, admitInstr_override]
  | nearRm w rm | farRm w rm =>
    cases rm with
    | reg r =>
      simp [Shape.bytes, RegMem.bytes, decodeOpcode, decodeFF, decodeRegMem, RegMem.isMem, admitInstr_override]
    | mem16 | mem32 => cases hmem

/-- The decoder takes a segment override at any place among the size overrides (R96). -/
theorem decode_prefixes_override (dflt : Size) (p : Prefixes) (x : SReg) (before after bs : List Byte)
    (hseg : p.seg.isNone = true) (hp : p.bytes = before ++ after) :
    decode dflt (before ++ x.overrideByte :: after ++ bs) = decodeFrom dflt { p with seg := some x } bs := by
  obtain ⟨o, a, y⟩ := p
  obtain rfl : y = none := Option.isNone_iff_eq_none.1 hseg
  cases o <;> cases a <;> simp [Prefixes.bytes, List.cons_eq_append_iff] at hp
  case false.false =>
    obtain ⟨rfl, rfl⟩ := hp
    simp [decode, Prefixes.empty, decodeFrom_override]
  case false.true =>
    obtain ⟨rfl, rfl⟩ | ⟨rfl, rfl⟩ := hp <;>
      simp [decode, Prefixes.empty, decodeFrom_override, decodeFrom_addrSize]
  case true.false =>
    obtain ⟨rfl, rfl⟩ | ⟨rfl, rfl⟩ := hp <;>
      simp [decode, Prefixes.empty, decodeFrom_override, decodeFrom_opSize]
  case true.true =>
    obtain ⟨rfl, rfl⟩ | ⟨_, rfl, ⟨rfl, rfl⟩ | ⟨rfl, rfl⟩⟩ := hp <;>
      simp [decode, Prefixes.empty, decodeFrom_override, decodeFrom_opSize, decodeFrom_addrSize]

/-- The opcode begins where the prefixes end. -/
theorem decodeFrom_shape_bytes (dflt : Size) (p : Prefixes) (y : Shape) (rest : List Byte) :
    decodeFrom dflt p (y.bytes ++ rest) = decodeOpcode dflt p (y.bytes ++ rest) := by
  obtain ⟨b, r, hbytes, hprefix⟩ := y.bytes_head
  rw [hbytes, List.cons_append, decodeFrom, hprefix]

/-- Settles O7: the first four clauses are the decoder's equations for the bytes of R95; an override among the prefixes
is taken, and refused with the instruction behind it. -/
theorem prefixPolicy : Obligations.PrefixPolicy := by
  intro dflt p r x
  refine ⟨fun b hb => decodeFrom_lockRep dflt p b r hb, fun h => ?_, fun h => ?_, fun h => ?_, ?_⟩
  · exact (decodeFrom_opSize dflt p r).trans (if_pos h)
  · exact (decodeFrom_addrSize dflt p r).trans (if_pos h)
  · exact (decodeFrom_override dflt p x r).trans (if_pos (Option.isSome_iff_ne_none.2 h))
  · intro i before after hwf hmem hbytes
    rw [wellFormed_eq_parts] at hwf
    rw [hasMemoryOperand_eq_parts] at hmem
    have hseg := i.parts.2.seg_isNone dflt i.parts.1 hwf hmem
    rw [List.append_assoc, decode_prefixes_override dflt _ x before after _ hseg hbytes, decodeFrom_shape_bytes,
      decodeOpcode_override dflt _ x _ r hwf hmem]

/-! ### Opcodes outside the table (R99, R100) -/

theorem prefixByte_eq_none (b : Byte) (h : b ∉ [0x66#8, 0x67#8, 0x2E#8, 0x36#8, 0x3E#8, 0x26#8, 0x64#8, 0x65#8,
    0xF0#8, 0xF2#8, 0xF3#8]) : prefixByte b = none := by
  revert b; decide

theorem decodeOpcode_outOfScope (dflt : Size) (p : Prefixes) (b : Byte) (r : List Byte)
    (hjcc : b.extractLsb' 4 4 ≠ 7) (hb : b ∉ [0xE3#8, 0xE9#8, 0xEA#8, 0xEB#8, 0xFF#8, 0x0F#8]) :
    decodeOpcode dflt p (b :: r) = .refused .opcodeOutOfScope := by
  simp only [List.mem_cons, List.not_mem_nil, or_false, not_or] at hb
  simp only [decodeOpcode, takeByte_cons, hjcc, if_false]
  simp [hb]

theorem decode0F_outOfScope (dflt : Size) (p : Prefixes) (b : Byte) (r : List Byte) (hb : b.extractLsb' 4 4 ≠ 8) :
    decode0F dflt p (b :: r) = .refused .opcodeOutOfScope := by
  simp only [decode0F, takeByte_cons, hb, if_false]

theorem decodeFF_outOfScope (dflt : Size) (p : Prefixes) (b : Byte) (r : List Byte) (h4 : b.extractLsb' 3 3 ≠ 4)
    (h5 : b.extractLsb' 3 3 ≠ 5) : decodeFF dflt p (b :: r) = .refused .opcodeOutOfScope := by
  simp only [decodeFF, takeByte_cons, h4, h5, or_self, if_false]

/-- Settles O8: the first byte begins the opcode, and the opcode's own decoder refuses. -/
theorem outOfScopeOpcodesRefused : Obligations.OutOfScopeOpcodesRefused := by
  intro dflt b r
  refine ⟨fun hjcc hb hprefix => ?_, fun hb => ?_, fun h4 h5 => ?_⟩
  · rw [decode, decodeFrom, prefixByte_eq_none b hprefix]
    exact decodeOpcode_outOfScope dflt _ b r hjcc hb
  · exact decode0F_outOfScope dflt Prefixes.empty b r hb
  · exact decodeFF_outOfScope dflt Prefixes.empty b r h4 h5

end Sys2Proof

/-! PROOFS. Effective addresses (`30_encoding.md` R92, R93) and the operand of FF /5 that is no instruction (R98). -/

namespace Sys2Proof.Machine

open Sys2Proof.Claims

/-! ### 16-bit address forms (R92) -/

/-- Settles O22: each `rm` names one base, and the displacement is the same number in all eight forms. -/
theorem effectiveAddress16 : Obligations.EffectiveAddress16 := by
  intro s d v bx bp si di disp at_ segAt
  have hdisp : disp16Value d = disp := by cases d <;> rfl
  have hat : ∀ n, at_ n = (base16Value s (Base16.ofCode n) + disp).setWidth 32 := fun n => by rw [← hdisp]; rfl
  exact ⟨hat 0, hat 1, hat 2, hat 3, hat 4, hat 5, hat 6, hat 7, rfl, rfl, rfl, rfl, rfl, rfl, rfl, rfl, rfl, rfl⟩

/-! ### 32-bit address forms (R93) -/

/-- The index as a number: `2 ^ scale` times the register, zero without one, modulo `2 ^ 32`. -/
theorem scaledIndex_toNat (s : State) (sc : Scale) (x : Option GReg) :
    (scaledIndex s sc x).toNat =
      (x.elim 0 fun y => (s.regs.get y).toNat * 2 ^ sc.code.toNat) % 2 ^ 32 := by
  cases x with
  | none => cases sc <;> rfl
  | some y =>
    have hlt := (s.regs.get y).isLt
    cases sc with
    | x1 => simpa [scaledIndex, State.reg32, Scale.code] using (Nat.mod_eq_of_lt hlt).symm
    | x2 | x4 | x8 => simp [scaledIndex, State.reg32, Scale.code]

/-- Settles O23: sums of 32-bit words as sums of numbers, with `scaledIndex_toNat` for the index. -/
theorem effectiveAddress32 : Obligations.EffectiveAddress32 := by
  intro s r b x n d v disp index
  have hdisp : (disp32Value d).toNat = disp := by cases d <;> rfl
  have helim : (x.elim 0 fun y => (s.regs.get y).toNat * 2 ^ n.toNat) = index := by cases x <;> rfl
  have hindex : (scaledIndex s (Scale.ofCode n) x).toNat = index % 2 ^ 32 := by
    rw [scaledIndex_toNat, Scale.code_ofCode, helim]
  have hseg : ∀ g, baseSegment g = if g = .ebp ∨ g = .esp then .ss else .ds := fun g => by
    simp only [baseSegment, or_comm]
  refine ⟨rfl, ?_, ?_, ?_, rfl, rfl, hseg r, hseg b⟩
  · rw [mem32Offset, BitVec.toNat_add, hdisp]
    rfl
  · rw [mem32Offset, BitVec.toNat_add, BitVec.toNat_add, hindex, hdisp, Nat.add_mod_mod, Nat.mod_add_mod]
    rfl
  · rw [mem32Offset, BitVec.toNat_add, hindex, Nat.mod_add_mod]

/-! ### FF /5 with a register operand (R98) -/

theorem readFarPointer_reg (p : Prefixes) (r : GReg) (w n : Nat) (s : State) :
    readFarPointer p (.reg r) w n s = .error (.fault (.exception .ud none s.eip)) := rfl

/-- Settles O37: the operand's read raises `#UD`, which is the outcome. -/
theorem farRegisterFormIsInvalid : Obligations.FarRegisterFormIsInvalid := by
  intro p r s
  constructor
  · show execJmpM16x16 p (.reg r) s = _
    simp only [execJmpM16x16, readFarPointer_reg, finish_fault, raises]
  · show execJmpM16x32 p (.reg r) s = _
    simp only [execJmpM16x32, readFarPointer_reg, finish_fault, raises]

end Sys2Proof.Machine

/-! PROOFS. Conditional jumps: what the conditions say of the flags and, after a compare, of the numbers compared
(`40_jcc.md` R110, R150), and the next state or the exception of every conditional jump (R111 to R148). -/

namespace Sys2Proof.Machine

open Sys2Proof.Claims

/-! ### Conditions and the bits they are read from (R27, R33, R38, R110) -/

/-- The condition that flipping bit 0 of `cc` names (R110). -/
def oppositeCond : Cond → Cond
  | .o => .no | .no => .o | .b => .ae | .ae => .b | .e => .ne | .ne => .e | .be => .a | .a => .be
  | .s => .ns | .ns => .s | .p => .np | .np => .p | .l => .ge | .ge => .l | .le => .g | .g => .le

theorem ofCode_xor_one : ∀ n : BitVec 4, Cond.ofCode (n ^^^ 1) = oppositeCond (Cond.ofCode n) := by decide

theorem condHolds_oppositeCond (c : Cond) (f : StatusFlags) : condHolds (oppositeCond c) f = !condHolds c f := by
  cases c <;> simp [oppositeCond, condHolds, bne]

/-- Bit `k` of a word as a digit of its number. -/
theorem getLsbD_eq_decide_digit {n : Nat} (v : BitVec n) (k : Nat) :
    v.getLsbD k = decide (v.toNat / 2 ^ k % 2 = 1) :=
  Nat.testBit_eq_decide_div_mod_eq

/-- The mode by the two bits it is read from, PE asked first (R38, D30). -/
theorem mode_eq_ite (s : State) :
    s.mode = if s.pe = false then .real else if s.vm = true then .v86 else .prot := by
  unfold State.mode
  cases s.pe with
  | false => rfl
  | true => rfl

/-- Settles O9: the rows of R110 hold by definition, a flipped bit 0 names the opposite condition, and every flag and
control bit is a digit of its register. -/
theorem conditionTable : Obligations.ConditionTable := by
  refine ⟨fun f => ⟨rfl, rfl, rfl, rfl, rfl, rfl, rfl, rfl⟩, fun f n => ?_, fun s => ?_⟩
  · rw [ofCode_xor_one, condHolds_oppositeCond]
  · intro flag control
    have hflag : ∀ k, s.eflags.getLsbD k = flag k := getLsbD_eq_decide_digit s.eflags
    have hcontrol : ∀ k, s.cr0.getLsbD k = control k := getLsbD_eq_decide_digit s.cr0
    have hflags : s.flags = { cf := flag 0, pf := flag 2, zf := flag 6, sf := flag 7, of := flag 11 } := by
      simp only [State.flags, State.cf, State.pf, State.zf, State.sf, State.of, hflag]
    have hmode : s.mode = if control 0 = false then .real else if flag 17 = true then .v86 else .prot := by
      simp only [mode_eq_ite, State.pe, State.vm, hflag, hcontrol]
    exact ⟨hflag 0, hflag 2, hflag 6, hflag 7, hflag 8, hflag 11, hflags, hcontrol 31, hmode⟩

/-! ### The flags of a compare (R150) -/

/-- A number of true answers is even when their exclusive or is false. -/
theorem decide_even_countP {α : Type} (p : α → Bool) (l : List α) :
    decide (l.countP p % 2 = 0) = !l.foldr (fun x acc => p x ^^ acc) false := by
  induction l with
  | nil => rfl
  | cons x l ih =>
    have hstep : decide ((l.countP p + 1) % 2 = 0) = !decide (l.countP p % 2 = 0) := by
      rw [← decide_not, decide_eq_decide]
      omega
    cases hx : p x with
    | false => simp [hx, ih]
    | true => simp [hx, hstep, ih]

theorem evenParity_eq_decide_countP (v : Byte) :
    evenParity v = decide ((List.range 8).countP (fun k => v.getLsbD k) % 2 = 0) := by
  rw [decide_even_countP]
  simp [evenParity, List.range, List.range.loop]

/-- The low 8 bits of a value of any width hold its bits 0 to 7, those beyond the width being 0. -/
theorem countP_getLsbD_setWidth {n : Nat} (v : BitVec n) :
    (List.range 8).countP (fun k => (v.setWidth 8).getLsbD k) = (List.range 8).countP (fun k => v.getLsbD k) := by
  refine List.countP_congr fun k hk => ?_
  simp [List.mem_range.1 hk]

/-- A signed difference is exact, or it wraps once and has the other sign. -/
theorem toInt_sub_cases {n : Nat} (a b : BitVec n) :
    (a - b).toInt = a.toInt - b.toInt ∨
      (a - b).toInt ≠ a.toInt - b.toInt ∧ ((a - b).toInt < 0 ↔ ¬a.toInt < b.toInt) := by
  have halo := a.le_two_mul_toInt
  have hahi := a.two_mul_toInt_lt
  have hblo := b.le_two_mul_toInt
  have hbhi := b.two_mul_toInt_lt
  rw [BitVec.toInt_sub, Int.bmod_def, Nat.cast_pow, Nat.cast_ofNat]
  generalize (2 : Int) ^ n = m at *
  by_cases hlt : a.toInt < b.toInt
  · have hmod : (a.toInt - b.toInt) % m = a.toInt - b.toInt + m := by
      rw [← Int.add_emod_right, Int.emod_eq_of_lt (by omega) (by omega)]
    rw [hmod]
    split_ifs <;> omega
  · have hmod : (a.toInt - b.toInt) % m = a.toInt - b.toInt := Int.emod_eq_of_lt (by omega) (by omega)
    rw [hmod]
    split_ifs <;> omega

/-- "Less" as R110 reads it from SF and OF is the order of the signed numbers (R150). -/
theorem compareFlags_sf_bne_of {n : Nat} (a b : BitVec n) :
    ((compareFlags a b).sf != (compareFlags a b).of) = decide (a.toInt < b.toInt) := by
  have hcases := toInt_sub_cases a b
  rw [compareFlags, BitVec.msb_eq_toInt]
  generalize (a - b).toInt = d at hcases
  obtain rfl | ⟨hwrap, hsign⟩ := hcases
  · simp
  · simp [hwrap, hsign, ← decide_not]

/-- ZF after a compare says that the signed numbers are equal, as two's complement is one to one. -/
theorem compareFlags_zf {n : Nat} (a b : BitVec n) : (compareFlags a b).zf = decide (a.toInt = b.toInt) := by
  simp [compareFlags, BitVec.toInt_inj, beq_eq_decide]

/-- Settles O10: SF and OF together give the signed order (`compareFlags_sf_bne_of`), CF the unsigned one, and ZF makes
each strict order the weak one. -/
theorem comparisonConditions : Obligations.ComparisonConditions := by
  intro n a b
  refine ⟨BitVec.msb_eq_getLsbD_last _, rfl, ?_, rfl, ?_, ?_, compareFlags_sf_bne_of a b, ?_⟩
  · show evenParity ((a - b).setWidth 8) = _
    rw [evenParity_eq_decide_countP, countP_getLsbD_setWidth]
  · show (decide (a.toNat < b.toNat) || a == b) = decide (a.toNat ≤ b.toNat)
    rw [beq_eq_decide, ← Bool.decide_or, decide_eq_decide, Nat.le_iff_lt_or_eq, BitVec.toNat_inj]
  · exact beq_eq_decide a b
  · show ((compareFlags a b).zf || ((compareFlags a b).sf != (compareFlags a b).of)) = _
    rw [compareFlags_zf, compareFlags_sf_bne_of, ← Bool.decide_or, decide_eq_decide, Int.le_iff_lt_or_eq, or_comm]

/-! ### The jump step (R57, R111 to R113) -/

theorem maskTarget_eq_ite (w : Size) (t : Word32) :
    maskTarget w t = if w = .w16 then t &&& 0x0000FFFF else t := by
  cases w <;> rfl

theorem maskTarget_w16_toNat (t : Word32) : (maskTarget .w16 t).toNat = t.toNat % 2 ^ 16 :=
  Nat.and_two_pow_sub_one_eq_mod t.toNat 16

theorem jumpNear_of_within (t : Word32) (s : State) (h : ¬(s.mode = .prot ∧ s.cs.limit < t)) :
    jumpNear t s = .ok (s.withEip t) :=
  if_neg h

theorem jumpNear_of_beyond (t : Word32) (s : State) (hm : s.mode = .prot) (hlimit : s.cs.limit < t) :
    jumpNear t s = raise .gp (some 0) s :=
  if_pos ⟨hm, hlimit⟩

/-- The three exclusive outcomes of a conditional jump: on to `next`, to the target `t`, or `#GP(0)` where `t` is beyond
the code-segment limit in Protected mode (R111, R113). -/
def JumpOutcomes (taken : Bool) (next t : Word32) (s : State) (out : Out) : Prop :=
  (taken = false → out = .next { s with eip := next }) ∧
  (taken = true → ¬(s.mode = .prot ∧ s.cs.limit < t) → out = .next { s with eip := t }) ∧
  (taken = true → s.mode = .prot → s.cs.limit < t → out = raises .gp (some 0) s)

/-- The jump step has those outcomes, with the target masked by the operand size. -/
theorem jumpRelative_outcomes (taken : Bool) (w : Size) (len : Nat) (disp : Word32) (s : State) :
    JumpOutcomes taken (s.eip + BitVec.ofNat 32 len) (maskTarget w (s.eip + BitVec.ofNat 32 len + disp)) s
      (finish (jumpRelative taken w len disp s)) := by
  refine ⟨?_, ?_, ?_⟩
  · rintro rfl
    rfl
  · rintro rfl hwithin
    exact congrArg finish (jumpNear_of_within _ s hwithin)
  · rintro rfl hm hlimit
    exact congrArg finish (jumpNear_of_beyond _ s hm hlimit)

/-- Every conditional jump has them. -/
theorem exec_conditional_outcomes (i : Instr) (s : State) (disp : Word32) (len : Nat) (w : Size) (taken : Bool)
    (h : conditional i s = some (disp, len, w, taken)) :
    JumpOutcomes taken (s.eip + BitVec.ofNat 32 len) (maskTarget w (s.eip + BitVec.ofNat 32 len + disp)) s
      (exec i s) := by
  rw [exec_of_conditional i s disp len w taken h]
  exact jumpRelative_outcomes taken w len disp s

/-! ### The forms of a conditional jump (R114 to R147) -/

theorem conditional_of_shortRow (i : Instr) (p : Prefixes) (d8 : Byte) (c : State → Bool) (s : State)
    (h : shortRow i = some (p, d8, c)) :
    conditional i s = some (d8.signExtend 32, p.count + 2, s.operandSize p, c s) := by
  cases i <;> cases h <;> rfl

theorem conditional_of_nearRow16 (i : Instr) (p : Prefixes) (rel : Word16) (c : State → Bool) (s : State)
    (h : nearRow16 i = some (p, rel, c)) :
    conditional i s = some (rel.signExtend 32, p.count + 4, .w16, c s) := by
  cases i <;> cases h <;> rfl

theorem conditional_of_nearRow32 (i : Instr) (p : Prefixes) (rel : Word32) (c : State → Bool) (s : State)
    (h : nearRow32 i = some (p, rel, c)) : conditional i s = some (rel, p.count + 6, .w32, c s) := by
  cases i <;> cases h <;> rfl

/-- Settles O11: the outcomes of a conditional jump with the length and the operand size of a short row. -/
theorem shortConditionalJumps : Obligations.ShortConditionalJumps := by
  intro i p d8 c s h next sum t
  have houtcomes := exec_conditional_outcomes i s _ _ _ _ (conditional_of_shortRow i p d8 c s h)
  rwa [maskTarget_eq_ite] at houtcomes

/-- Settles O12: the same with the length of a near row and operand size 16, so that the target is masked. -/
theorem nearConditionalJumps16 : Obligations.NearConditionalJumps16 :=
  fun i p rel c s h => exec_conditional_outcomes i s _ _ _ _ (conditional_of_nearRow16 i p rel c s h)

/-- Settles O13: the same with operand size 32, so that the target is not masked. -/
theorem nearConditionalJumps32 : Obligations.NearConditionalJumps32 :=
  fun i p rel c s h => exec_conditional_outcomes i s _ _ _ _ (conditional_of_nearRow32 i p rel c s h)

/-- JCXZ is a short jump on the low 16 bits of ECX (R20, R130). -/
theorem conditional_jcxzRel8 (p : Prefixes) (d8 : Byte) (s : State) :
    conditional (.jcxzRel8 p d8) s =
      some (d8.signExtend 32, p.count + 2, s.operandSize p, decide (s.regs.ecx.toNat % 2 ^ 16 = 0)) := by
  have hcx : (s.regs.ecx.setWidth 16 == (0 : Word16)) = decide (s.regs.ecx.toNat % 2 ^ 16 = 0) := by
    simp [beq_eq_decide, ← BitVec.toNat_inj]
  rw [← hcx]
  rfl

/-- JECXZ is a short jump on all of ECX (R131). -/
theorem conditional_jecxzRel8 (p : Prefixes) (d8 : Byte) (s : State) :
    conditional (.jecxzRel8 p d8) s =
      some (d8.signExtend 32, p.count + 2, s.operandSize p, decide (s.regs.ecx = 0)) :=
  rfl

/-- Settles O14: the outcomes of a conditional jump whose condition is a test of CX, or of ECX, against zero. -/
theorem countRegisterJumps : Obligations.CountRegisterJumps := by
  intro p d8 s next sum t
  have hcx := exec_conditional_outcomes _ s _ _ _ _ (conditional_jcxzRel8 p d8 s)
  have hecx := exec_conditional_outcomes _ s _ _ _ _ (conditional_jecxzRel8 p d8 s)
  simp only [JumpOutcomes, decide_eq_true_eq, decide_eq_false_iff_not, maskTarget_eq_ite] at hcx hecx
  obtain ⟨hcxNext, hcxTarget, hcxFault⟩ := hcx
  exact ⟨hcxNext, hcxTarget, hcxFault, hecx⟩

/-! ### Frame, mask and exceptions (R57, R112, R113, R148) -/

/-- Settles O15: a conditional jump is the jump step, which writes EIP only. -/
theorem conditionalJumpsWriteOnlyEip : Obligations.ConditionalJumpsWriteOnlyEip := by
  intro i s t hi h
  obtain ⟨⟨disp, len, w, taken⟩, hq⟩ := Option.ne_none_iff_exists'.1 hi
  rw [exec_of_conditional i s disp len w taken hq, finish_eq_next] at h
  obtain ⟨e, rfl⟩ := jumpRelative_eq_ok_withEip taken w len disp s t h
  rfl

/-- Settles O16: the target that the jump step loads is masked when taken with operand size 16, and only then. -/
theorem takenJumpMask : Obligations.TakenJumpMask := by
  intro i s t disp len w taken hi h
  rw [exec_of_conditional i s disp len w taken hi, finish_eq_next] at h
  obtain ⟨rfl, rfl⟩ | ⟨rfl, rfl⟩ := jumpRelative_eq_ok taken w len disp s t h
  · refine ⟨?_, ?_, nofun⟩
    · rintro - rfl
      exact maskTarget_w16_toNat _
    · rintro - rfl
      rfl
  · exact ⟨nofun, nofun, fun _ => rfl⟩

/-- Settles O17: the third of the outcomes, and that each of the other two completes. -/
theorem conditionalJumpExceptions : Obligations.ConditionalJumpExceptions := by
  intro i s disp len w taken hi sum t
  obtain ⟨hnext, htarget, hfault⟩ := exec_conditional_outcomes i s disp len w taken hi
  rw [maskTarget_eq_ite] at htarget hfault
  refine ⟨fun ⟨htaken, hm, hlimit⟩ => hfault htaken hm hlimit, fun hno => ?_⟩
  cases taken with
  | false => exact ⟨_, hnext rfl⟩
  | true => exact ⟨_, htarget rfl fun hbeyond => hno ⟨rfl, hbeyond⟩⟩

end Sys2Proof.Machine

/-! PROOFS. The near forms of JMP (`41_jmp_near.md` R161 to R169): each is the near jump to one target, and a near jump
has two outcomes. -/

namespace Sys2Proof.Machine

open Sys2Proof.Claims

/-! ### The near jump (R57, R162) -/

/-- The two exclusive outcomes of a near jump to `t`: on to `t` with nothing else changed, or `#GP(0)` where `t` is
beyond the code-segment limit in Protected mode. -/
def NearJumpOutcomes (t : Word32) (s : State) (out : Out) : Prop :=
  (¬(s.mode = .prot ∧ s.cs.limit < t) → out = .next { s with eip := t }) ∧
  (s.mode = .prot → s.cs.limit < t → out = raises .gp (some 0) s)

theorem jumpNear_outcomes (t : Word32) (s : State) : NearJumpOutcomes t s (finish (jumpNear t s)) :=
  ⟨fun hwithin => congrArg finish (jumpNear_of_within t s hwithin),
    fun hm hlimit => congrArg finish (jumpNear_of_beyond t s hm hlimit)⟩

/-! ### The relative forms (R161, R163 to R165) -/

/-- A relative jump that is always taken is the near jump to its masked target. -/
theorem jumpRelative_taken_outcomes (w : Size) (len : Nat) (disp : Word32) (s : State) :
    NearJumpOutcomes (maskTarget w (s.eip + BitVec.ofNat 32 len + disp)) s (finish (jumpRelative true w len disp s)) :=
  jumpNear_outcomes _ s

theorem exec_jmpRel8_outcomes (p : Prefixes) (d8 : Byte) (s : State) :
    NearJumpOutcomes (maskTarget (s.operandSize p) (s.eip + BitVec.ofNat 32 (p.count + 2) + d8.signExtend 32)) s
      (exec (.jmpRel8 p d8) s) :=
  jumpRelative_taken_outcomes _ _ _ s

theorem exec_jmpRel16_outcomes (p : Prefixes) (rel : Word16) (s : State) :
    NearJumpOutcomes (maskTarget .w16 (s.eip + BitVec.ofNat 32 (p.count + 3) + rel.signExtend 32)) s
      (exec (.jmpRel16 p rel) s) :=
  jumpRelative_taken_outcomes _ _ _ s

theorem exec_jmpRel32_outcomes (p : Prefixes) (rel : Word32) (s : State) :
    NearJumpOutcomes (s.eip + BitVec.ofNat 32 (p.count + 5) + rel) s (exec (.jmpRel32 p rel) s) :=
  jumpRelative_taken_outcomes .w32 _ _ s

/-- Settles O18: the outcomes of the three relative forms, each at its own target; the mask of rel8 depends on the
operand size, that of rel16 and rel32 is fixed by the form. -/
theorem relativeJumps : Obligations.RelativeJumps := by
  intro p d8 rel16 rel32 s sum8 t8 t16 t32
  have h8 := exec_jmpRel8_outcomes p d8 s
  rw [maskTarget_eq_ite] at h8
  obtain ⟨hnext8, hfault8⟩ := h8
  obtain ⟨hnext16, hfault16⟩ := exec_jmpRel16_outcomes p rel16 s
  obtain ⟨hnext32, hfault32⟩ := exec_jmpRel32_outcomes p rel32 s
  exact ⟨hnext8, hfault8, hnext16, hfault16, hnext32, hfault32⟩

/-! ### The indirect forms (R166 to R168) -/

/-- An operand that is read, from a register or from memory, is an absolute target: nothing is added to it. -/
theorem exec_jmpRm16_outcomes (p : Prefixes) (rm : RegMem) (s : State) (v : Word16) (h : readRm16 p rm s = .ok v) :
    NearJumpOutcomes (v.setWidth 32) s (exec (.jmpRm16 p rm) s) := by
  have hexec : exec (.jmpRm16 p rm) s = finish (jumpNear (v.setWidth 32) s) := by
    simp [exec, execJmpRm16, h, jumpIndirect, Except.map]
  rw [hexec]
  exact jumpNear_outcomes _ s

theorem exec_jmpRm32_outcomes (p : Prefixes) (rm : RegMem) (s : State) (v : Word32) (h : readRm32 p rm s = .ok v) :
    NearJumpOutcomes v s (exec (.jmpRm32 p rm) s) := by
  have hexec : exec (.jmpRm32 p rm) s = finish (jumpNear v s) := by
    simp [exec, execJmpRm32, h, jumpIndirect]
  rw [hexec]
  exact jumpNear_outcomes v s

/-- Settles O20: the read of a memory operand is the segment read at its address (`readRm_of_memoryOperand`), and what
it answers is the target. -/
theorem indirectJumpMemory : Obligations.IndirectJumpMemory := by
  intro p rm r off v16 v32 s hm
  have h16 (hread : segRead s 16 r off 2 = .ok v16) : NearJumpOutcomes (v16.setWidth 32) s (exec (.jmpRm16 p rm) s) :=
    exec_jmpRm16_outcomes p rm s v16 ((readRm_of_memoryOperand p rm s r off 16 2 _ hm).trans hread)
  have h32 (hread : segRead s 32 r off 4 = .ok v32) : NearJumpOutcomes v32 s (exec (.jmpRm32 p rm) s) :=
    exec_jmpRm32_outcomes p rm s v32 ((readRm_of_memoryOperand p rm s r off 32 4 _ hm).trans hread)
  exact ⟨fun hread => (h16 hread).left, fun hread => (h16 hread).right,
    fun hread => (h32 hread).left, fun hread => (h32 hread).right⟩

/-- A register file is its eight registers, each under its own number (R20). -/
theorem GRegs.eq_mk_get (g : GRegs) :
    g = { eax := g.get .eax, ecx := g.get .ecx, edx := g.get .edx, ebx := g.get .ebx,
          esp := g.get .esp, ebp := g.get .ebp, esi := g.get .esi, edi := g.get .edi } :=
  rfl

/-- Settles O19: a register operand is read in every state, so the two forms are the near jump to its low half and to
the whole of it. -/
theorem indirectJumpRegister : Obligations.IndirectJumpRegister := by
  intro p r s t16 t32
  obtain ⟨hnext16, hfault16⟩ := exec_jmpRm16_outcomes p (.reg r) s (s.reg16 r) rfl
  obtain ⟨hnext32, hfault32⟩ := exec_jmpRm32_outcomes p (.reg r) s (s.reg32 r) rfl
  exact ⟨hnext16, hfault16, hnext32, hfault32, s.regs.eq_mk_get⟩

/-! ### Frame (R169) -/

/-- Settles O21: a near JMP that completes is the old state with EIP written (`exec_nearJmp_eq_next`). -/
theorem nearJumpsWriteOnlyEip : Obligations.NearJumpsWriteOnlyEip := by
  intro i s t hi h
  obtain ⟨e, rfl⟩ := exec_nearJmp_eq_next i s t hi h
  rfl

end Sys2Proof.Machine

/-! PROOFS. The far forms of JMP (`42_jmp_far.md` R184 to R198): the checks that the blocks of the source share, each
with its outcomes, the blocks written with them, and the outcomes of every block. -/

namespace Sys2Proof.Machine

open Sys2Proof.Claims

/-! ### Real and V86 mode (R184, R185) -/

/-- Settles O36: outside Protected mode a far jump is `farReal` of its pointer. -/
theorem farJumpRealOrV86 : Obligations.FarJumpRealOrV86 := by
  intro i s w sel off hp hm
  rw [exec_of_hasPointer i s w sel off hp, farJump, if_neg hm]
  rfl

/-! ### Frame (R196) -/

/-- Settles O45: a far jump that completes is the old state with CS and EIP loaded (`exec_farJmp_eq_next`). -/
theorem farJumpsWriteNoFlag : Obligations.FarJumpsWriteNoFlag := by
  intro i s t hi h
  obtain ⟨c, e, rfl, -⟩ := exec_farJmp_eq_next i s t hi h
  rfl

/-! ### The checks that the blocks share -/

theorem finish_raise (k : ExceptionKind) (c : Option Word32) (s : State) : finish (raise k c s) = raises k c s := rfl

theorem finish_raiseSel (k : ExceptionKind) (sel : Word16) (s : State) :
    finish (raiseSel k sel s) = raisesSel k sel s := rfl

/-- "Must be PRESENT": go on, or `#NP(selector)` (R189 to R194). -/
def ifPresent (sel : Word16) (d : BitVec 64) (s : State) (rest : Res State) : Res State :=
  if descPresent d = false then raiseSel .np sel s else rest

theorem ifPresent_of_absent {sel : Word16} {d : BitVec 64} {s : State} {rest : Res State}
    (h : descPresent d = false) : ifPresent sel d s rest = raiseSel .np sel s := if_pos h

theorem ifPresent_of_present {sel : Word16} {d : BitVec 64} {s : State} {rest : Res State}
    (h : descPresent d = true) : ifPresent sel d s rest = rest := if_neg (by simp [h])

/-- The DPL of a gate or a TSS against CPL and against the RPL of the selector: go on, or `#GP(selector)` (R191, R193,
R194). -/
def ifPrivileged (sel : Word16) (d : BitVec 64) (s : State) (rest : Res State) : Res State :=
  if ¬ s.cpl ≤ descDpl d then raiseSel .gp sel s
  else if ¬ selRpl sel ≤ descDpl d then raiseSel .gp sel s
  else rest

/-- The three exclusive outcomes of these two checks. -/
structure PrivilegeOutcomes (sel : Word16) (d : BitVec 64) (s : State) (rest out : Out) : Prop where
  belowCpl : descDpl d < s.cpl → out = raisesSel .gp sel s
  belowRpl : s.cpl ≤ descDpl d → descDpl d < selRpl sel → out = raisesSel .gp sel s
  passed : s.cpl ≤ descDpl d → selRpl sel ≤ descDpl d → out = rest

theorem ifPrivileged_outcomes (sel : Word16) (d : BitVec 64) (s : State) (rest : Res State) :
    PrivilegeOutcomes sel d s (finish rest) (finish (ifPrivileged sel d s rest)) where
  belowCpl hlt := by rw [ifPrivileged, if_pos (BitVec.not_le.2 hlt), finish_raiseSel]
  belowRpl hcpl hlt := by
    rw [ifPrivileged, if_neg (not_not.2 hcpl), if_pos (BitVec.not_le.2 hlt), finish_raiseSel]
  passed hcpl hrpl := by rw [ifPrivileged, if_neg (not_not.2 hcpl), if_neg (not_not.2 hrpl)]

/-- The checks on a gate itself, the same for both kinds of gate (R191, R193). -/
def throughGate (sel : Word16) (gate : BitVec 64) (s : State) (rest : Res State) : Res State :=
  ifPrivileged sel gate s (ifPresent sel gate s rest)

/-- The four exclusive outcomes of a gate. -/
structure GateOutcomes (sel : Word16) (gate : BitVec 64) (s : State) (rest out : Out) : Prop where
  belowCpl : descDpl gate < s.cpl → out = raisesSel .gp sel s
  belowRpl : s.cpl ≤ descDpl gate → descDpl gate < selRpl sel → out = raisesSel .gp sel s
  absent : s.cpl ≤ descDpl gate → selRpl sel ≤ descDpl gate → descPresent gate = false → out = raisesSel .np sel s
  passed : s.cpl ≤ descDpl gate → selRpl sel ≤ descDpl gate → descPresent gate = true → out = rest

theorem throughGate_outcomes (sel : Word16) (gate : BitVec 64) (s : State) (rest : Res State) :
    GateOutcomes sel gate s (finish rest) (finish (throughGate sel gate s rest)) := by
  obtain ⟨hbelowCpl, hbelowRpl, hpassed⟩ := ifPrivileged_outcomes sel gate s (ifPresent sel gate s rest)
  refine ⟨hbelowCpl, hbelowRpl, fun hcpl hrpl hp => ?_, fun hcpl hrpl hp => ?_⟩
  · exact (hpassed hcpl hrpl).trans (congrArg finish (ifPresent_of_absent hp))
  · exact (hpassed hcpl hrpl).trans (congrArg finish (ifPresent_of_present hp))

/-- "Index within its table, else `#GP(selector)`", and the read of the descriptor there (R186, R192, R193). -/
def withDescriptor (sel : Word16) (s : State) (rest : BitVec 64 → Res State) : Res State :=
  if inTable s sel = false then raiseSel .gp sel s
  else
    match readDescriptor s sel with
    | .error e => .error e
    | .ok d => rest d

/-- The three exclusive outcomes of looking a descriptor up. -/
structure LookupOutcomes (sel : Word16) (s : State) (rest : BitVec 64 → Out) (out : Out) : Prop where
  beyondTable : inTable s sel = false → out = raisesSel .gp sel s
  stopped : ∀ f, inTable s sel = true → ReadStops s (descriptorAddress s sel) 8 f → out = .fault f
  found : ∀ d, inTable s sel = true → readDescriptor s sel = .ok d → out = rest d

/-- A descriptor's read stops as `ReadStops` says of its eight bytes (R64, R230). -/
theorem readDescriptor_of_readStops (s : State) (sel : Word16) (f : Fault)
    (h : ReadStops s (descriptorAddress s sel) 8 f) : readDescriptor s sel = .error (.fault f) := by
  obtain ⟨-, hread⟩ := descriptorLookup s sel
  rw [hread]
  exact memRead_of_readStops s 64 _ 8 f h

theorem withDescriptor_outcomes (sel : Word16) (s : State) (rest : BitVec 64 → Res State) :
    LookupOutcomes sel s (fun d => finish (rest d)) (finish (withDescriptor sel s rest)) where
  beyondTable h := by rw [withDescriptor, if_pos h, finish_raiseSel]
  stopped f h hstop := by
    rw [withDescriptor, if_neg (by simp [h]), readDescriptor_of_readStops s sel f hstop, finish_fault]
  found d h hread := by rw [withDescriptor, if_neg (by simp [h]), hread]

/-! ### The blocks of the source, written with these checks -/

theorem farProtected_eq (w : Size) (sel : Word16) (off : Word32) (s : State) :
    farProtected w sel off s =
      if isNull sel = true then raise .gp (some 0) s
      else withDescriptor sel s fun d => farDispatch w sel off d s := rfl

theorem farConforming_eq (sel : Word16) (off : Word32) (d : BitVec 64) (s : State) :
    farConforming sel off d s =
      if ¬ descDpl d ≤ s.cpl then raiseSel .gp sel s else ifPresent sel d s (enterSegment sel d off s) := rfl

theorem farNonconforming_eq (sel : Word16) (off : Word32) (d : BitVec 64) (s : State) :
    farNonconforming sel off d s =
      if ¬ selRpl sel ≤ s.cpl then raiseSel .gp sel s
      else if descDpl d ≠ s.cpl then raiseSel .gp sel s
      else ifPresent sel d s (enterSegment sel d off s) := rfl

/-! ### The entry (R186 to R188) -/

/-- In Protected mode a far jump with its pointer in hand is `farProtected` of that pointer. -/
theorem exec_of_hasPointer_prot (i : Instr) (s : State) (w : Size) (sel : Word16) (off : Word32)
    (hp : HasPointer i s w sel off) (hm : s.mode = .prot) : exec i s = finish (farProtected w sel off s) := by
  rw [exec_of_hasPointer i s w sel off hp, farJump, if_pos hm]

theorem farProtected_of_not_null (w : Size) (sel : Word16) (off : Word32) (s : State) (h : isNull sel = false) :
    farProtected w sel off s = withDescriptor sel s fun d => farDispatch w sel off d s := by
  rw [farProtected_eq, if_neg (by simp [h])]

theorem farProtected_outcomes (w : Size) (sel : Word16) (off : Word32) (s : State) (h : isNull sel = false) :
    LookupOutcomes sel s (fun d => finish (farDispatch w sel off d s)) (finish (farProtected w sel off s)) := by
  rw [farProtected_of_not_null w sel off s h]
  exact withDescriptor_outcomes sel s _

/-- A far jump whose selector names `d` goes on by the kind of `d`. -/
theorem exec_of_atDescriptor (i : Instr) (s : State) (w : Size) (sel : Word16) (off : Word32) (d : BitVec 64)
    (h : AtDescriptor i s w sel off d) : exec i s = finish (farDispatch w sel off d s) := by
  obtain ⟨hp, hm, hnull, htable, hread⟩ := h
  rw [exec_of_hasPointer_prot i s w sel off hp hm]
  exact (farProtected_outcomes w sel off s hnull).found d htable hread

theorem farDispatch_of_illegal (w : Size) (sel : Word16) (off : Word32) (d : BitVec 64) (s : State)
    (h : descKind d = .data ∨ descKind d = .other) : farDispatch w sel off d s = raiseSel .gp sel s := by
  obtain hk | hk := h <;> simp only [farDispatch, hk]

/-- Settles O38: the null selector first, then the outcomes of the lookup, the last of them at an illegal AR byte. -/
theorem farSelectorChecks : Obligations.FarSelectorChecks := by
  intro i s w sel off hp hm
  rw [exec_of_hasPointer_prot i s w sel off hp hm]
  have hlookup := farProtected_outcomes w sel off s
  refine ⟨fun hnull => ?_, fun hnull => (hlookup hnull).beyondTable, fun f hnull => (hlookup hnull).stopped f,
    fun d hnull htable hread hkind => ?_⟩
  · rw [farProtected_eq, if_pos hnull, finish_raise]
  · rw [(hlookup hnull).found d htable hread, farDispatch_of_illegal w sel off d s hkind, finish_raiseSel]

/-! ### Code segments (R189, R190) -/

/-- The two exclusive outcomes of entering a segment: `#GP(0)` of an offset beyond its limit, or the load (R69,
R198). -/
structure LoadOutcomes (sel : Word16) (d : BitVec 64) (off : Word32) (s : State) (out : Out) : Prop where
  beyondLimit : descLimit d < off → out = raises .gp (some 0) s
  loaded : off ≤ descLimit d → out = .next (entered s sel d off)

theorem enterSegment_outcomes (sel : Word16) (d : BitVec 64) (off : Word32) (s : State) :
    LoadOutcomes sel d off s (finish (enterSegment sel d off s)) where
  beyondLimit hlt := by rw [enterSegment, if_pos hlt, finish_raise]
  loaded hle := by
    rw [enterSegment, if_neg (BitVec.not_lt.2 hle)]
    rfl

/-- The three exclusive outcomes of a code segment whose privilege checks passed. -/
structure SegmentOutcomes (sel : Word16) (d : BitVec 64) (off : Word32) (s : State) (out : Out) : Prop where
  absent : descPresent d = false → out = raisesSel .np sel s
  beyondLimit : descPresent d = true → descLimit d < off → out = raises .gp (some 0) s
  loaded : descPresent d = true → off ≤ descLimit d → out = .next (entered s sel d off)

theorem ifPresent_enterSegment_outcomes (sel : Word16) (d : BitVec 64) (off : Word32) (s : State) :
    SegmentOutcomes sel d off s (finish (ifPresent sel d s (enterSegment sel d off s))) where
  absent hp := by rw [ifPresent_of_absent hp, finish_raiseSel]
  beyondLimit hp := by
    rw [ifPresent_of_present hp]
    exact (enterSegment_outcomes sel d off s).beyondLimit
  loaded hp := by
    rw [ifPresent_of_present hp]
    exact (enterSegment_outcomes sel d off s).loaded

/-- Settles O39: the DPL check, then the outcomes of a segment that passed it. -/
theorem farConformingSegment : Obligations.FarConformingSegment := by
  intro i s w sel off d hat hkind
  have hexec : exec i s = finish (farConforming sel off d s) := by
    rw [exec_of_atDescriptor i s w sel off d hat, farDispatch, hkind]
  have hsegment (hdpl : descDpl d ≤ s.cpl) : SegmentOutcomes sel d off s (exec i s) := by
    rw [hexec, farConforming_eq, if_neg (not_not.2 hdpl)]
    exact ifPresent_enterSegment_outcomes sel d off s
  refine ⟨fun hlt => ?_, fun hdpl => (hsegment hdpl).absent, fun hdpl => (hsegment hdpl).beyondLimit,
    fun hdpl => (hsegment hdpl).loaded⟩
  rw [hexec, farConforming_eq, if_pos (BitVec.not_le.2 hlt), finish_raiseSel]

/-- Settles O40: the RPL and DPL checks, then the outcomes of a segment that passed them. -/
theorem farNonconformingSegment : Obligations.FarNonconformingSegment := by
  intro i s w sel off d hat hkind
  have hexec : exec i s = finish (farNonconforming sel off d s) := by
    rw [exec_of_atDescriptor i s w sel off d hat, farDispatch, hkind]
  have hsegment (hrpl : selRpl sel ≤ s.cpl) (hdpl : descDpl d = s.cpl) : SegmentOutcomes sel d off s (exec i s) := by
    rw [hexec, farNonconforming_eq, if_neg (not_not.2 hrpl), if_neg (not_not.2 hdpl)]
    exact ifPresent_enterSegment_outcomes sel d off s
  refine ⟨fun hlt => ?_, fun hrpl hdpl => ?_, fun hrpl hdpl => (hsegment hrpl hdpl).absent,
    fun hrpl hdpl => (hsegment hrpl hdpl).beyondLimit, fun hrpl hdpl => (hsegment hrpl hdpl).loaded⟩
  · rw [hexec, farNonconforming_eq, if_pos (BitVec.not_le.2 hlt), finish_raiseSel]
  · rw [hexec, farNonconforming_eq, if_neg (not_not.2 hrpl), if_pos hdpl, finish_raiseSel]

/-! ### Call gates (R191, R192) -/

/-- What a call gate that passed leads to: the checks on the selector in it (R192). -/
def callGateTarget (w : Size) (gate : BitVec 64) (s : State) : Res State :=
  if isNull (gateSelector gate) = true then raise .gp (some 0) s
  else withDescriptor (gateSelector gate) s fun c => farGateSegment w gate c s

theorem farCallGate_eq (w : Size) (sel : Word16) (gate : BitVec 64) (s : State) :
    farCallGate w sel gate s = throughGate sel gate s (callGateTarget w gate s) := rfl

theorem callGateTarget_outcomes (w : Size) (gate : BitVec 64) (s : State) (h : isNull (gateSelector gate) = false) :
    LookupOutcomes (gateSelector gate) s (fun c => finish (farGateSegment w gate c s))
      (finish (callGateTarget w gate s)) := by
  rw [callGateTarget, if_neg (by simp [h])]
  exact withDescriptor_outcomes (gateSelector gate) s _

/-- A far jump whose selector names a call gate has the outcomes of that gate. -/
theorem exec_callGate_outcomes (i : Instr) (s : State) (w : Size) (sel : Word16) (off : Word32) (g : BitVec 64)
    (hat : AtDescriptor i s w sel off g) (hkind : descKind g = .callGate16 ∨ descKind g = .callGate32) :
    GateOutcomes sel g s (finish (callGateTarget w g s)) (exec i s) := by
  have hexec : exec i s = finish (farCallGate w sel g s) := by
    rw [exec_of_atDescriptor i s w sel off g hat, farDispatch]
    obtain hk | hk := hkind <;> rw [hk]
  rw [hexec, farCallGate_eq]
  exact throughGate_outcomes sel g s _

/-- Settles O41: the outcomes of the gate, then of looking up the selector in it. -/
theorem callGateChecks : Obligations.CallGateChecks := by
  intro i s w sel off g hat hkind
  obtain ⟨hbelowCpl, hbelowRpl, habsent, hpassed⟩ := exec_callGate_outcomes i s w sel off g hat hkind
  have hlookup := callGateTarget_outcomes w g s
  refine ⟨hbelowCpl, hbelowRpl, habsent, fun hcpl hrpl hp hnull => ?_, fun hcpl hrpl hp hnull => ?_,
    fun f hcpl hrpl hp hnull => ?_⟩
  all_goals rw [hpassed hcpl hrpl hp]
  · rw [callGateTarget, if_pos hnull, finish_raise]
  · exact (hlookup hnull).beyondTable
  · exact (hlookup hnull).stopped f

/-- A code segment that a call gate may lead to: conforming with DPL at most CPL, or nonconforming with DPL equal to
CPL (R192, C3). -/
def GateCode (c : BitVec 64) (s : State) : Prop :=
  descKind c = .conformingCode ∧ descDpl c ≤ s.cpl ∨ descKind c = .nonconformingCode ∧ descDpl c = s.cpl

/-- The gate is of the size that the jump has: 16 bits of a 286 gate, 32 of a 386 one (R192, D26). -/
def GateFits (w : Size) (gate : BitVec 64) : Prop :=
  descKind gate = .callGate16 ∧ w = .w16 ∨ descKind gate = .callGate32 ∧ w = .w32

theorem gateSize_eq_some_iff (w : Size) (gate : BitVec 64) : gateSize (descKind gate) = some w ↔ GateFits w gate := by
  unfold GateFits
  cases descKind gate <;> simp [gateSize, eq_comm]

/-- A gate that fits holds the whole of its offset in the bits that are taken from it. -/
theorem gateTarget_of_fits (w : Size) (gate : BitVec 64) (h : GateFits w gate) :
    gateTarget w gate = gateOffset gate := by
  obtain ⟨hk, rfl⟩ | ⟨-, rfl⟩ := h
  · simp [gateTarget, gateOffset, hk]
  · rfl

theorem farGateSegment_of_not_code (w : Size) (gate c : BitVec 64) (s : State) (h : ¬ GateCode c s) :
    farGateSegment w gate c s = raiseSel .gp (gateSelector gate) s := by
  unfold GateCode at h
  unfold farGateSegment
  cases hk : descKind c with
  | conformingCode =>
    have hdpl : ¬ descDpl c ≤ s.cpl := fun hle => h (.inl ⟨hk, hle⟩)
    simp [hdpl]
  | nonconformingCode =>
    have hdpl : descDpl c ≠ s.cpl := fun heq => h (.inr ⟨hk, heq⟩)
    simp [hdpl]
  | _ => simp

theorem farGateSegment_of_code (w : Size) (gate c : BitVec 64) (s : State) (h : GateCode c s) :
    farGateSegment w gate c s =
      ifPresent (gateSelector gate) c s
        (if gateSize (descKind gate) ≠ some w then .error (.refused (.callGateSizeMismatch s.eip))
        else enterSegment (gateSelector gate) c (gateTarget w gate) s) := by
  obtain ⟨hk, hdpl⟩ | ⟨hk, hdpl⟩ := h <;> simp [farGateSegment, ifPresent, hk, hdpl]

/-- Settles O42: the gate passed and its selector names `c`; what is left is `farGateSegment`, the code segment's own
checks and the load. -/
theorem callGateSegment : Obligations.CallGateSegment := by
  intro i s w sel off g c hat hkind hcpl hrpl hp hnull htable hread code fits
  have hexec : exec i s = finish (farGateSegment w g c s) := by
    rw [(exec_callGate_outcomes i s w sel off g hat hkind).passed hcpl hrpl hp]
    exact (callGateTarget_outcomes w g s hnull).found c htable hread
  rw [hexec]
  refine ⟨fun hcode => ?_, fun hcode hpresent => ?_, fun hcode hpresent hfits => ?_, fun hcode hpresent hfits => ?_,
    fun hcode hpresent hfits => ?_⟩
  · rw [farGateSegment_of_not_code w g c s hcode, finish_raiseSel]
  · rw [farGateSegment_of_code w g c s hcode, ifPresent_of_absent hpresent, finish_raiseSel]
  all_goals rw [farGateSegment_of_code w g c s hcode, ifPresent_of_present hpresent]
  · rw [if_pos (mt (gateSize_eq_some_iff w g).1 hfits), finish_refused]
  all_goals rw [if_neg (not_not.2 ((gateSize_eq_some_iff w g).2 hfits)), gateTarget_of_fits w g hfits]
  · exact (enterSegment_outcomes (gateSelector g) c (gateOffset g) s).beyondLimit
  · exact (enterSegment_outcomes (gateSelector g) c (gateOffset g) s).loaded

/-! ### Task gates and task state segments (R193, R194, R197) -/

/-- The end of both task paths: an available and present TSS, then the refused switch. -/
def enterTask (sel : Word16) (t : BitVec 64) (s : State) : Res State :=
  if (descKind t).isAvailTss = false then raiseSel .gp sel s else ifPresent sel t s (switchTasks s)

theorem isAvailTss_iff (k : Kind) : k.isAvailTss = true ↔ k = .availTss16 ∨ k = .availTss32 := by
  cases k <;> simp [Kind.isAvailTss]

/-- The three exclusive outcomes at that end. -/
structure TaskOutcomes (sel : Word16) (t : BitVec 64) (s : State) (out : Out) : Prop where
  notAvailable : ¬ (descKind t = .availTss16 ∨ descKind t = .availTss32) → out = raisesSel .gp sel s
  absent : descKind t = .availTss16 ∨ descKind t = .availTss32 → descPresent t = false → out = raisesSel .np sel s
  refused : descKind t = .availTss16 ∨ descKind t = .availTss32 → descPresent t = true →
    out = .refused (.taskSwitchNotModelled s.eip)

theorem enterTask_outcomes (sel : Word16) (t : BitVec 64) (s : State) :
    TaskOutcomes sel t s (finish (enterTask sel t s)) where
  notAvailable h := by rw [enterTask, if_pos (by simpa using mt (isAvailTss_iff _).1 h), finish_raiseSel]
  absent h hp := by
    rw [enterTask, if_neg (by simpa using (isAvailTss_iff _).2 h), ifPresent_of_absent hp, finish_raiseSel]
  refused h hp := by
    rw [enterTask, if_neg (by simpa using (isAvailTss_iff _).2 h), ifPresent_of_present hp]
    rfl

/-- What a task gate that passed leads to: the selector in it, which must be global, and the TSS it names (R193). -/
def taskGateTarget (gate : BitVec 64) (s : State) : Res State :=
  if selLocal (gateSelector gate) = true then raiseSel .gp (gateSelector gate) s
  else withDescriptor (gateSelector gate) s fun t => enterTask (gateSelector gate) t s

theorem farTaskGate_eq (sel : Word16) (gate : BitVec 64) (s : State) :
    farTaskGate sel gate s = throughGate sel gate s (taskGateTarget gate s) := rfl

theorem taskGateTarget_outcomes (gate : BitVec 64) (s : State) (h : selLocal (gateSelector gate) = false) :
    LookupOutcomes (gateSelector gate) s (fun t => finish (enterTask (gateSelector gate) t s))
      (finish (taskGateTarget gate s)) := by
  rw [taskGateTarget, if_neg (by simp [h])]
  exact withDescriptor_outcomes (gateSelector gate) s _

theorem taskGateTarget_of_local (gate : BitVec 64) (s : State) (h : selLocal (gateSelector gate) = true) :
    taskGateTarget gate s = raiseSel .gp (gateSelector gate) s := if_pos h

/-- Settles O43: the outcomes of the gate, then of looking up the TSS it names, then of that TSS. -/
theorem taskGateChecks : Obligations.TaskGateChecks := by
  intro i s w sel off g hat hkind tsel
  have hexec : exec i s = finish (throughGate sel g s (taskGateTarget g s)) := by
    rw [exec_of_atDescriptor i s w sel off g hat, farDispatch, hkind, farTaskGate_eq]
  obtain ⟨hbelowCpl, hbelowRpl, habsent, hpassed⟩ := throughGate_outcomes sel g s (taskGateTarget g s)
  have hlookup := taskGateTarget_outcomes g s
  rw [hexec]
  refine ⟨hbelowCpl, hbelowRpl, habsent, fun hcpl hrpl hp hbad => ?_, fun f hcpl hrpl hp hglobal => ?_,
    fun t hcpl hrpl hp hglobal htable hread => ?_⟩
  all_goals rw [hpassed hcpl hrpl hp]
  · cases hlocal : selLocal tsel with
    | true => rw [taskGateTarget_of_local g s hlocal, finish_raiseSel]
    | false => exact (hlookup hlocal).beyondTable (by simpa [hlocal] using hbad)
  · exact (hlookup hglobal).stopped f
  · rw [(hlookup hglobal).found t htable hread]
    obtain ⟨hnotAvailable, habsentTss, hrefused⟩ := enterTask_outcomes tsel t s
    exact ⟨hnotAvailable, habsentTss, hrefused⟩

theorem farTss_eq (sel : Word16) (d : BitVec 64) (s : State) :
    farTss sel d s = ifPrivileged sel d s (enterTask sel d s) := rfl

theorem farDispatch_of_tss (w : Size) (sel : Word16) (off : Word32) (d : BitVec 64) (s : State)
    (h : descKind d ∈ [Kind.availTss16, .availTss32, .busyTss16, .busyTss32]) :
    farDispatch w sel off d s = farTss sel d s := by
  simp only [List.mem_cons, List.not_mem_nil, or_false] at h
  obtain hk | hk | hk | hk := h <;> rw [farDispatch, hk]

/-- Settles O44: the privilege checks, then the outcomes of the TSS. -/
theorem taskStateSegmentChecks : Obligations.TaskStateSegmentChecks := by
  intro i s w sel off d hat hkind avail
  have hexec : exec i s = finish (ifPrivileged sel d s (enterTask sel d s)) := by
    rw [exec_of_atDescriptor i s w sel off d hat, farDispatch_of_tss w sel off d s hkind, farTss_eq]
  obtain ⟨hbelowCpl, hbelowRpl, hpassed⟩ := ifPrivileged_outcomes sel d s (enterTask sel d s)
  obtain ⟨hnotAvailable, habsent, hrefused⟩ := enterTask_outcomes sel d s
  rw [hexec]
  refine ⟨hbelowCpl, hbelowRpl, fun hcpl hrpl => ?_, fun hcpl hrpl => ?_, fun hcpl hrpl => ?_⟩
  all_goals rw [hpassed hcpl hrpl]
  · exact hnotAvailable
  · exact habsent
  · exact hrefused

end Sys2Proof.Machine

/-! PROOFS. The exceptions of a step, with their codes (`60_exceptions.md` R199, R220, R221, R223). -/

namespace Sys2Proof.Machine

open Sys2Proof.Claims

/-- Every exception that a step can raise, with its code and where it comes from. -/
inductive StepException (s : State) : ExceptionKind → Option Word32 → Prop where
  /-- FF /5 with a register operand (R98). -/
  | invalidOpcode (p : Prefixes) (r : GReg)
      (hi : fetchInstr s = .ok (.jmpM16x16 p (.reg r)) ∨ fetchInstr s = .ok (.jmpM16x32 p (.reg r))) :
      StepException s .ud none
  /-- An operand read through SS (R55). -/
  | stackSegment (hm : s.mode = .prot) : StepException s .ss (some 0)
  /-- An offset beyond its limit, in every mode (R221, R222). -/
  | offset : StepException s .gp (if s.mode = .real then none else some 0)
  /-- A selector that a far jump refuses; the null selector gives code 0 (R223). -/
  | selector (hm : s.mode = .prot) (sel : Word16) : StepException s .gp (some (errSel sel))
  /-- A descriptor that is not present (R189 to R194). -/
  | notPresent (hm : s.mode = .prot) (i : Instr) (hi : fetchInstr s = .ok i) (hfar : isFarJmp i = true)
      (sel : Word16) : StepException s .np (some (errSel sel))
  /-- A linear address that `Translate` faults on (R58). -/
  | pageFault (lin code : Word32) (h : TranslateFaults s lin code) : StepException s .pf (some code)

section

variable (s : State) (k : ExceptionKind) (c : Option Word32) (pc : Word32)

theorem stepException_of_readStop (h : ReadStop s (.fault (.exception k c pc))) : StepException s k c := by
  obtain ⟨a, code, hm, hpg, hfind, he⟩ | ⟨a, -, he⟩ := h
  · cases he
    exact .pageFault a code ⟨hm, hpg, hfind⟩
  · cases he

theorem stepException_of_farStop (i : Instr) (hi : fetchInstr s = .ok i) (hfar : isFarJmp i = true)
    (hm : s.mode = .prot) (h : FarStop s (.fault (.exception k c pc))) : StepException s k c := by
  obtain ⟨sel, he⟩ | ⟨sel, he⟩ | hread | he | he := h
  · cases he
    exact .selector hm sel
  · cases he
    exact .notPresent hm i hi hfar sel
  · exact stepException_of_readStop s k c pc hread
  · cases he
  · cases he

theorem stepException_of_execStop (i : Instr) (hi : fetchInstr s = .ok i)
    (h : ExecStop i s (.fault (.exception k c pc))) : StepException s k c := by
  cases h with
  | invalidOpcode p r hreg =>
    refine .invalidOpcode p r ?_
    obtain rfl | rfl := hreg
    · exact .inl hi
    · exact .inr hi
  | stackSegment hm => exact .stackSegment hm
  | offset => exact .offset
  | read _ he => exact stepException_of_readStop s k c pc he
  | far _ hfar hm he => exact stepException_of_farStop s k c pc i hi hfar hm he

theorem stepException_of_fetchByte (j : Nat) (h : fetchByte s j = .error (.fault (.exception k c pc))) :
    StepException s k c := by
  obtain ⟨-, he⟩ | hread := fetchByte_stop s j _ h
  · cases he
    exact .offset
  · exact stepException_of_readStop s k c pc hread

/-- An exception comes from the fetch or from the meaning of the instruction fetched. -/
theorem stepException_of_step (h : step s = .fault (.exception k c pc)) : StepException s k c := by
  obtain hfetch | ⟨i, hi, hexec⟩ := step_stop s (.fault (.exception k c pc)) h
  · obtain ⟨r, hr⟩ | ⟨j, hj⟩ := fetchInstr_stop s _ hfetch
    · cases hr
    · exact stepException_of_fetchByte s k c pc j hj
  · exact stepException_of_execStop s k c pc i hi hexec

end

/-- Settles O54: each of the ways a step raises an exception has the kind, the code and the mode that are claimed. -/
theorem exceptionCodes : Obligations.ExceptionCodes := by
  intro s k c pc h
  cases stepException_of_step s k c pc h with
  | invalidOpcode p r hi => exact ⟨nofun, fun _ => ⟨rfl, p, r, hi⟩, nofun, nofun, nofun, nofun⟩
  | stackSegment hm => exact ⟨nofun, nofun, fun _ => ⟨rfl, hm⟩, nofun, nofun, nofun⟩
  | offset =>
    refine ⟨nofun, nofun, nofun, nofun, nofun, fun _ => ⟨by simp, fun hv86 => by simp [hv86], fun hprot => ⟨0, ?_⟩⟩⟩
    simp [hprot]
  | selector hm sel =>
    exact ⟨nofun, nofun, nofun, nofun, nofun, fun _ => ⟨by simp [hm], by simp [hm], fun _ => ⟨sel, rfl⟩⟩⟩
  | notPresent hm i hi hfar sel =>
    exact ⟨nofun, nofun, nofun, fun _ => ⟨hm, ⟨i, hi, hfar⟩, sel, rfl⟩, nofun, nofun⟩
  | pageFault lin code hfault => exact ⟨nofun, nofun, nofun, nofun, fun _ => ⟨lin, code, hfault, rfl⟩, nofun⟩

end Sys2Proof.Machine

/-! PROOFS. Every stop of a step names its instruction, and the refusals that cannot happen (`60_exceptions.md` R228 to
R230; `30_encoding.md` R88, R96). The decoder needs at most 10 bytes and the fetch gives it 15, so neither way to the
refusal past `MAX_INSN_LEN` is ever taken. -/

namespace Sys2Proof

/-! ### How many bytes the decoder needs (R81, R84, R88, R90 to R93) -/

/-- A reader of the stream that finds what it needs within `n` bytes. -/
def ReadsWithin {α : Type} (n : Nat) (f : List Byte → Option (α × List Byte)) : Prop :=
  ∀ bs, n ≤ bs.length → f bs ≠ none

/-- What a decoder says of `len` bytes when `n` are enough for it: an instruction too long is never the refusal. -/
def DecidedWithin (n len : Nat) (d : Decoded) : Prop :=
  d ≠ .refused .instructionTooLong ∧ (n ≤ len → d ≠ .truncated)

/-- A decoder that never refuses for the length of an instruction, and decides within `n` bytes. -/
def DecidesWithin (n : Nat) (f : List Byte → Decoded) : Prop := ∀ bs, DecidedWithin n bs.length (f bs)

theorem decidedWithin_ok (n len : Nat) (i : Instr) (rest : List Byte) : DecidedWithin n len (.ok i rest) :=
  ⟨nofun, fun _ => nofun⟩

theorem decidedWithin_refused (n len : Nat) (r : DecodeRefusal) (hr : r ≠ .instructionTooLong) :
    DecidedWithin n len (.refused r) := ⟨by simpa using hr, fun _ => nofun⟩

theorem decidedWithin_truncated (n len : Nat) (h : len < n) : DecidedWithin n len .truncated :=
  ⟨nofun, fun hlen => absurd hlen h.not_ge⟩

theorem DecidedWithin.mono {m n len : Nat} {d : Decoded} (h : DecidedWithin m len d) (hmn : m ≤ n) :
    DecidedWithin n len d := ⟨h.1, fun hlen => h.2 (hmn.trans hlen)⟩

/-- One byte more, of which the decoder needs one byte more. -/
theorem DecidedWithin.succ {n len : Nat} {d : Decoded} (h : DecidedWithin n len d) :
    DecidedWithin (n + 1) (len + 1) d := ⟨h.1, fun hlen => h.2 (Nat.le_of_succ_le_succ hlen)⟩

theorem ReadsWithin.of_cons {α : Type} {n : Nat} {f : List Byte → Option (α × List Byte)}
    (hcons : ∀ b, ReadsWithin n fun r => f (b :: r)) : ReadsWithin (n + 1) f := by
  intro bs hlen
  cases bs with
  | nil => simp at hlen
  | cons b r => exact hcons b r (Nat.le_of_succ_le_succ hlen)

theorem DecidesWithin.of_cons {n : Nat} {f : List Byte → Decoded} (hnil : f [] = .truncated)
    (hcons : ∀ b, DecidesWithin n fun r => f (b :: r)) : DecidesWithin (n + 1) f := by
  intro bs
  cases bs with
  | nil => rw [hnil]; exact decidedWithin_truncated _ _ n.succ_pos
  | cons b r => exact (hcons b r).succ

theorem readsWithin_some {α : Type} (n : Nat) (v : α) : ReadsWithin n fun r => some (v, r) := fun _ _ => nofun

theorem ReadsWithin.mono {α : Type} {m n : Nat} {f : List Byte → Option (α × List Byte)} (hf : ReadsWithin m f)
    (hmn : m ≤ n) : ReadsWithin n f := fun bs hlen => hf bs (hmn.trans hlen)

theorem DecidesWithin.mono {m n : Nat} {f : List Byte → Decoded} (hf : DecidesWithin m f) (hmn : m ≤ n) :
    DecidesWithin n f := fun bs => (hf bs).mono hmn

theorem ReadsWithin.map {α β : Type} {n : Nat} {f : List Byte → Option (α × List Byte)} (hf : ReadsWithin n f)
    (g : α → β) : ReadsWithin n fun bs => (f bs).map fun (v, r) => (g v, r) :=
  fun bs hlen => mt Option.map_eq_none_iff.1 (hf bs hlen)

theorem takeByte_within : ReadsWithin 1 takeByte := .of_cons fun b => readsWithin_some 0 b

theorem takeWord16_within : ReadsWithin 2 takeWord16 :=
  .of_cons fun b0 => .of_cons fun b1 => readsWithin_some 0 (word16 b0 b1)

theorem takeWord32_within : ReadsWithin 4 takeWord32 :=
  .of_cons fun b0 => .of_cons fun b1 => .of_cons fun b2 => .of_cons fun b3 =>
    readsWithin_some 0 (word32 b0 b1 b2 b3)

theorem takePtr16_within : ReadsWithin 4 takePtr16 :=
  .of_cons fun b0 => .of_cons fun b1 => takeWord16_within.map (Prod.mk (word16 b0 b1))

theorem takePtr32_within : ReadsWithin 6 takePtr32 :=
  .of_cons fun b0 => .of_cons fun b1 => .of_cons fun b2 => .of_cons fun b3 =>
    takeWord16_within.map (Prod.mk (word32 b0 b1 b2 b3))

theorem decodeMem16_within (mod : BitVec 2) (rm : BitVec 3) : ReadsWithin 2 (decodeMem16 mod rm) := by
  unfold decodeMem16
  split_ifs
  · exact takeWord16_within.map Mem16.direct
  · exact readsWithin_some 2 _
  · exact (takeByte_within.mono (by decide)).map fun v => Mem16.based (Base16.ofCode rm) (.d8 v)
  · exact takeWord16_within.map fun v => Mem16.based (Base16.ofCode rm) (.d16 v)

theorem decodeDisp32_within (mod : BitVec 2) : ReadsWithin 4 (decodeDisp32 mod) := by
  unfold decodeDisp32
  split_ifs
  · exact readsWithin_some 4 _
  · exact (takeByte_within.mono (by decide)).map _
  · exact takeWord32_within.map _

theorem decodeSib_within (mod : BitVec 2) : ReadsWithin 5 (decodeSib mod) := by
  refine .of_cons fun sib => ?_
  simp only [decodeSib, takeByte_cons]
  split_ifs
  · exact takeWord32_within.map _
  · exact (decodeDisp32_within mod).map _

theorem decodeMem32_within (mod : BitVec 2) (rm : BitVec 3) : ReadsWithin 5 (decodeMem32 mod rm) := by
  unfold decodeMem32
  split_ifs
  · exact decodeSib_within mod
  · exact (takeWord32_within.mono (by decide)).map _
  · exact ((decodeDisp32_within mod).mono (by decide)).map _

theorem decodeRegMem_within (addressSize : Size) (modrm : Byte) : ReadsWithin 5 (decodeRegMem addressSize modrm) := by
  unfold decodeRegMem
  dsimp only
  split_ifs
  · exact readsWithin_some 5 _
  · cases addressSize with
    | w16 => exact ((decodeMem16_within _ _).mono (by decide)).map _
    | w32 => exact (decodeMem32_within _ _).map _

/-- The last checks on an instruction refuse no more than its prefixes: 10 bytes are within `MAX_INSN_LEN`. -/
theorem admitInstr_cases (p : Prefixes) (hasMem : Bool) (i : Instr) (rest : List Byte) :
    admitInstr p hasMem i rest = .ok i rest ∨ admitInstr p hasMem i rest = .refused .prefixNotModelled := by
  cases hseg : p.seg.isSome && !hasMem with
  | true => exact .inr (by simp [admitInstr, hseg])
  | false =>
    refine .inl (admitInstr_eq_ok p hasMem i rest ?_)
    cases hp : p.seg <;> cases hasMem <;> simp_all

theorem admitInstr_decided (n len : Nat) (p : Prefixes) (hasMem : Bool) (i : Instr) (rest : List Byte) :
    DecidedWithin n len (admitInstr p hasMem i rest) := by
  obtain hok | hrefused := admitInstr_cases p hasMem i rest
  · rw [hok]
    exact decidedWithin_ok n len i rest
  · rw [hrefused]
    exact decidedWithin_refused n len _ nofun

/-- Admitting the value of a reader needs no more bytes than the reader. -/
theorem decidesWithin_admit {α : Type} {n : Nat} {f : List Byte → Option (α × List Byte)}
    {g : List Byte → Decoded} (hf : ReadsWithin n f) (hnone : ∀ bs, f bs = none → g bs = .truncated)
    (hsome : ∀ bs v rest, f bs = some (v, rest) → ∃ p hasMem i, g bs = admitInstr p hasMem i rest) :
    DecidesWithin n g := by
  intro bs
  cases hv : f bs with
  | none =>
    rw [hnone bs hv]
    exact decidedWithin_truncated n _ (lt_of_not_ge fun hlen => hf bs hlen hv)
  | some v =>
    obtain ⟨p, hasMem, i, hg⟩ := hsome bs v.1 v.2 hv
    rw [hg]
    exact admitInstr_decided n _ p hasMem i v.2

theorem admitTaken_within {α : Type} (p : Prefixes) (build : α → Instr) {n : Nat}
    {f : List Byte → Option (α × List Byte)} (hf : ReadsWithin n f) :
    DecidesWithin n fun bs => admitTaken p build (f bs) :=
  decidesWithin_admit hf (fun bs h => by rw [h]; rfl) fun bs v rest h => ⟨p, false, build v, by rw [h]; rfl⟩

theorem decodeFF_within (dflt : Size) (p : Prefixes) : DecidesWithin 6 (decodeFF dflt p) := by
  refine .of_cons rfl fun modrm => ?_
  by_cases hdigit : modrm.extractLsb' 3 3 = 4 ∨ modrm.extractLsb' 3 3 = 5
  · simp only [decodeFF, takeByte_cons, hdigit, if_true]
    exact decidesWithin_admit (decodeRegMem_within (p.addressSize dflt) modrm) (fun bs h => by simp [h])
      fun bs rm rest h => ⟨p, rm.isMem, _, by rw [h]⟩
  · simp only [decodeFF, takeByte_cons, hdigit, if_false]
    exact fun _ => decidedWithin_refused _ _ _ nofun

theorem decode0F_within (dflt : Size) (p : Prefixes) : DecidesWithin 5 (decode0F dflt p) := by
  refine .of_cons rfl fun b => ?_
  simp only [decode0F, takeByte_cons]
  split_ifs
  · cases p.operandSize dflt with
    | w16 => exact (admitTaken_within p _ takeWord16_within).mono (by decide)
    | w32 => exact admitTaken_within p _ takeWord32_within
  · exact fun _ => decidedWithin_refused _ _ _ nofun

theorem decodeOpcode_within (dflt : Size) (p : Prefixes) : DecidesWithin 7 (decodeOpcode dflt p) := by
  refine .of_cons rfl fun b => ?_
  simp only [decodeOpcode, takeByte_cons]
  have hbyte : ∀ build : Byte → Instr, DecidesWithin 6 fun r => admitTaken p build (takeByte r) :=
    fun build => (admitTaken_within p build takeByte_within).mono (by decide)
  split_ifs
  · exact hbyte _
  · cases Config.countSel (p.operandSize dflt) (p.addressSize dflt) <;> exact hbyte _
  · exact hbyte _
  · cases p.operandSize dflt with
    | w16 => exact (admitTaken_within p _ takeWord16_within).mono (by decide)
    | w32 => exact (admitTaken_within p _ takeWord32_within).mono (by decide)
  · cases p.operandSize dflt with
    | w16 => exact (admitTaken_within p _ takePtr16_within).mono (by decide)
    | w32 => exact admitTaken_within p _ takePtr32_within
  · exact decodeFF_within dflt p
  · exact (decode0F_within dflt p).mono (by decide)
  · exact fun _ => decidedWithin_refused _ _ _ nofun

/-- A byte of the prefixes that was met before is refused; any other leaves the rest to decide. -/
theorem DecidedWithin.refuse_if {n len : Nat} {d : Decoded} (repeated : Prop) [Decidable repeated]
    (h : ¬ repeated → DecidedWithin n len d) :
    DecidedWithin n len (if repeated then .refused .prefixNotModelled else d) := by
  split_ifs with hrepeated
  · exact decidedWithin_refused n len _ nofun
  · exact h hrepeated

/-- Behind the `p.count` bytes of the prefixes the decoder needs as many bytes less; there are at most three of them. -/
theorem decodeFrom_within (dflt : Size) (p : Prefixes) : DecidesWithin (10 - p.count) (decodeFrom dflt p) := by
  intro bs
  induction bs generalizing p with
  | nil =>
    have hcount := p.count_le
    exact decidedWithin_truncated _ _ (by rw [List.length_nil]; omega)
  | cons b r ih =>
    have hbehind : ∀ p', p'.count = p.count + 1 →
        DecidedWithin (10 - p.count) (b :: r).length (decodeFrom dflt p' r) :=
      fun p' hp' => (ih p').succ.mono (by have := p'.count_le; omega)
    cases hb : prefixByte b with
    | none =>
      have hcount := p.count_le
      simpa only [decodeFrom, hb] using (decodeOpcode_within dflt p).mono (by omega) (b :: r)
    | some x =>
      simp only [decodeFrom, hb]
      cases x with
      | opSize => exact .refuse_if _ fun hp => hbehind _ (p.count_opSize hp)
      | addrSize => exact .refuse_if _ fun hp => hbehind _ (p.count_addrSize hp)
      | seg y => exact .refuse_if _ fun hp => hbehind _ (p.count_seg y hp)
      | lockRep => exact decidedWithin_refused _ _ _ nofun

/-- Ten bytes are enough for the decoder, and it never refuses an instruction for its length (R88, D21). -/
theorem decode_within (dflt : Size) : DecidesWithin 10 (decode dflt) := decodeFrom_within dflt Prefixes.empty

end Sys2Proof

namespace Sys2Proof.Machine

/-! ### Every stop of a step names its instruction (R228 to R230) -/

/-- A stop that carries the EIP of `s`; a refusal is one of the four that a step can give. -/
inductive NamesInstruction (s : State) : Stop → Prop where
  | exception (k : ExceptionKind) (c : Option Word32) : NamesInstruction s (.fault (.exception k c s.eip))
  | undefinedRead (a : Word32) : NamesInstruction s (.fault (.undefinedRead a s.eip))
  | opcodeOutOfScope : NamesInstruction s (.refused (.opcodeOutOfScope s.eip))
  | prefixNotModelled : NamesInstruction s (.refused (.prefixNotModelled s.eip))
  | taskSwitchNotModelled : NamesInstruction s (.refused (.taskSwitchNotModelled s.eip))
  | callGateSizeMismatch : NamesInstruction s (.refused (.callGateSizeMismatch s.eip))

section

variable (s : State) (e : Stop)

theorem namesInstruction_of_readStop (h : ReadStop s e) : NamesInstruction s e := by
  obtain ⟨_, _, -, -, -, rfl⟩ | ⟨_, -, rfl⟩ := h
  · exact .exception _ _
  · exact .undefinedRead _

theorem namesInstruction_of_farStop (h : FarStop s e) : NamesInstruction s e := by
  obtain ⟨_, rfl⟩ | ⟨_, rfl⟩ | hread | rfl | rfl := h
  · exact .exception _ _
  · exact .exception _ _
  · exact namesInstruction_of_readStop s e hread
  · exact .taskSwitchNotModelled
  · exact .callGateSizeMismatch

theorem namesInstruction_of_execStop (i : Instr) (h : ExecStop i s e) : NamesInstruction s e := by
  cases h with
  | invalidOpcode | stackSegment | offset => exact .exception _ _
  | read _ hread => exact namesInstruction_of_readStop s e hread
  | far _ _ _ hfar => exact namesInstruction_of_farStop s e hfar

theorem namesInstruction_of_fetchByte (k : Nat) (h : fetchByte s k = .error e) : NamesInstruction s e := by
  obtain ⟨-, rfl⟩ | hread := fetchByte_stop s k e h
  · exact .exception _ _
  · exact namesInstruction_of_readStop s e hread

/-- A refusal of the decoder that is not for the length of the instruction. -/
theorem namesInstruction_of_decodeRefusal (r : DecodeRefusal) (hr : r ≠ .instructionTooLong) :
    NamesInstruction s (.refused (decodeRefusal r s)) := by
  cases r with
  | opcodeOutOfScope => exact .opcodeOutOfScope
  | prefixNotModelled => exact .prefixNotModelled
  | instructionTooLong => exact absurd rfl hr

/-- A fetch that nothing stops gives all the bytes asked for. -/
theorem fetchBytes_length_of_no_stop (n : Nat) :
    ∀ k, (fetchBytes s n k).2 = none → (fetchBytes s n k).1.length = n := by
  induction n with
  | zero => exact fun _ _ => rfl
  | succ n ih =>
    intro k h
    cases hb : fetchByte s k with
    | error e => simp [fetchBytes, hb] at h
    | ok b =>
      simp only [fetchBytes, hb] at h ⊢
      exact congrArg (· + 1) (ih (k + 1) h)

/-- A stream that ends inside an instruction was ended by a byte that cannot be fetched: all 15 bytes are enough. -/
theorem namesInstruction_of_fetchInstr (h : fetchInstr s = .error e) : NamesInstruction s e := by
  obtain ⟨hshort, hdecides⟩ := decode_within s.defaultSize (fetchBytes s Config.maxInsnLen 0).1
  unfold fetchInstr at h
  split at h
  next => cases h
  next r hr =>
    cases h
    exact namesInstruction_of_decodeRefusal s r fun hlong => hshort (hlong ▸ hr)
  next htruncated =>
    split at h
    next he =>
      cases h
      obtain ⟨j, hj⟩ := fetchBytes_stop s _ 0 e he
      exact namesInstruction_of_fetchByte s e j hj
    next hnone =>
      refine absurd htruncated (hdecides ?_)
      rw [fetchBytes_length_of_no_stop s Config.maxInsnLen 0 hnone]
      decide

theorem namesInstruction_of_step (h : step s = finish (.error e)) : NamesInstruction s e := by
  obtain hfetch | ⟨i, -, hexec⟩ := step_stop s e h
  · exact namesInstruction_of_fetchInstr s e hfetch
  · exact namesInstruction_of_execStop s e i hexec

end

/-- Settles O53: the stop of a step is one of those that `NamesInstruction` lists. -/
theorem stopsNameTheirInstruction : Obligations.StopsNameTheirInstruction := by
  intro s
  refine ⟨fun k c pc h => ?_, fun a pc h => ?_, fun q h => ?_⟩
  · cases namesInstruction_of_step s (.fault (.exception k c pc)) h
    rfl
  · cases namesInstruction_of_step s (.fault (.undefinedRead a pc)) h
    rfl
  · cases namesInstruction_of_step s (.refused q) h <;> simp

end Sys2Proof.Machine

/-! PROOFS. The end of a run (`60_exceptions.md` R240). -/

namespace Sys2Proof.Safety

open Sys2Proof.Machine

theorem atEnd_iff (e : EndAddress) (s : State) : atEnd e s = true ↔ s.cs.selector = e.selector ∧ s.eip = e.offset :=
  decide_eq_true_iff

/-- At the end address a run is over, however many steps it may take. -/
theorem runTo_of_atEnd (e : EndAddress) (n : Nat) (s : State) (h : atEnd e s = true) : runTo e n s = .final s := by
  cases n with
  | zero => exact if_pos h
  | succ n => exact if_pos h

/-- Away from the end address a run of no steps is still running. -/
theorem runTo_zero_of_not_atEnd (e : EndAddress) (s : State) (h : ¬ atEnd e s = true) : runTo e 0 s = .running s :=
  if_neg h

/-- A run that ends finally away from the end address makes a step and ends finally behind it. -/
theorem runTo_succ_eq_final (e : EndAddress) (n : Nat) (s t : State) (h : ¬ atEnd e s = true)
    (hrun : runTo e (n + 1) s = .final t) : ∃ u, step s = .next u ∧ runTo e n u = .final t := by
  rw [runTo, if_neg h] at hrun
  split at hrun
  next u hu => exact ⟨u, hu, hrun⟩
  next => cases hrun
  next => cases hrun

/-- The state that a run ends with is at the end address. -/
theorem atEnd_of_runTo_eq_final (e : EndAddress) (n : Nat) (s t : State) (h : runTo e n s = .final t) :
    atEnd e t = true := by
  induction n generalizing s with
  | zero =>
    by_cases hs : atEnd e s = true
    · cases (runTo_of_atEnd e 0 s hs).symm.trans h
      exact hs
    · cases (runTo_zero_of_not_atEnd e s hs).symm.trans h
  | succ n ih =>
    by_cases hs : atEnd e s = true
    · cases (runTo_of_atEnd e (n + 1) s hs).symm.trans h
      exact hs
    · obtain ⟨u, -, hrest⟩ := runTo_succ_eq_final e n s t hs h
      exact ih u hrest

/-- Settles O59: by induction on the number of steps allowed. -/
theorem runEndsAtEndAddress : Obligations.RunEndsAtEndAddress := fun e n s t =>
  ⟨fun hcs heip => runTo_of_atEnd e n s ((atEnd_iff e s).2 ⟨hcs, heip⟩),
    fun h => (atEnd_iff e t).1 (atEnd_of_runTo_eq_final e n s t h)⟩

end Sys2Proof.Safety

/-! PROOFS. The launch premises are kept by every step (`70_reset_and_hazards.md` R252). -/

namespace Sys2Proof.Machine

open Sys2Proof.Claims

/-! ### What a descriptor lookup depends on (R62, R64) -/

/-- A loaded CS has the index and the table bit of its selector: only the RPL field gives way to CPL (R31, R69). -/
theorem getLsbD_loadedCs_selector (cpl : BitVec 2) (x : Word16) (d : BitVec 64) (i : Nat) (h : 2 ≤ i) :
    (loadedCs cpl x d).selector.getLsbD i = x.getLsbD i := by
  by_cases hi : i < 16
  · have hkept : (0xFFFC : Word16).getLsbD i = true := (getLsbD_clearRpl ⟨i, hi⟩).trans (decide_eq_true h)
    rw [loadedCs, BitVec.getLsbD_or, BitVec.getLsbD_and, hkept]
    simp [BitVec.getLsbD_of_ge cpl i h]
  · simp [BitVec.getLsbD_of_ge _ i (not_lt.1 hi)]

theorem selLocal_loadedCs (cpl : BitVec 2) (x : Word16) (d : BitVec 64) :
    selLocal (loadedCs cpl x d).selector = selLocal x := getLsbD_loadedCs_selector cpl x d 2 le_rfl

theorem selIndex_loadedCs (cpl : BitVec 2) (x : Word16) (d : BitVec 64) :
    selIndex (loadedCs cpl x d).selector = selIndex x := by
  refine congrArg BitVec.toNat (BitVec.eq_of_getLsbD_eq fun i _ => ?_)
  rw [BitVec.getLsbD_extractLsb', BitVec.getLsbD_extractLsb',
    getLsbD_loadedCs_selector cpl x d (3 + i) (by omega)]

theorem inTable_loadedCs (s : State) (cpl : BitVec 2) (x : Word16) (d : BitVec 64) :
    inTable s (loadedCs cpl x d).selector = inTable s x := by
  rw [inTable, inTable, tableLimit, tableLimit, selLocal_loadedCs, selIndex_loadedCs]

theorem readDescriptor_loadedCs (s : State) (cpl : BitVec 2) (x : Word16) (d : BitVec 64) :
    readDescriptor s (loadedCs cpl x d).selector = readDescriptor s x := by
  rw [readDescriptor, readDescriptor, tableBase, tableBase, selLocal_loadedCs, selIndex_loadedCs]

theorem inTable_withCsEip (s : State) (c : Segment) (e : Word32) (x : Word16) :
    inTable (s.withCsEip c e) x = inTable s x := rfl

theorem readDescriptor_ok_withCsEip (s : State) (c : Segment) (e : Word32) (x : Word16) (d : BitVec 64)
    (h : readDescriptor s x = .ok d) : readDescriptor (s.withCsEip c e) x = .ok d :=
  memRead_ok_withCsEip s c e 64 _ 8 d h

/-! ### What a step can do to CS -/

/-- A far jump that completes is `farJump` of the pointer it had in hand. -/
theorem farJump_of_exec_eq_next (i : Instr) (s t : State) (hi : isFarJmp i = true) (h : exec i s = .next t) :
    ∃ w sel off, farJump w sel off s = .ok t := by
  obtain ⟨w, sel, off, hp⟩ := hasPointer_of_exec_eq_next i s t hi h
  rw [exec_of_hasPointer i s w sel off hp, finish_eq_next] at h
  exact ⟨w, sel, off, h⟩

/-- A step that completes writes EIP only, or is a far jump that completes. -/
theorem step_eq_next_cases (s t : State) (h : step s = .next t) :
    (∃ e, t = s.withEip e) ∨ ∃ w sel off, farJump w sel off s = .ok t := by
  obtain ⟨i, -, hexec⟩ := step_eq_next s t h
  obtain ⟨-, hnear⟩ | ⟨hfar, -⟩ := exec_eq_next i s t hexec
  · exact .inl hnear
  · exact .inr (farJump_of_exec_eq_next i s t hfar hexec)

end Sys2Proof.Machine

namespace Sys2Proof.Safety

open Sys2Proof.Machine

/-! ### The premises on CS (R252, items 1 and 2) -/

/-- In Protected mode: the selector of CS, with CPL in its RPL field, names the code segment descriptor that CS
holds. -/
def CsNamesCode (s : State) : Prop :=
  selRpl s.cs.selector = s.cpl ∧ inTable s s.cs.selector = true ∧
    ∃ d, readDescriptor s s.cs.selector = .ok d ∧
      (descKind d = .conformingCode ∨ descKind d = .nonconformingCode) ∧ CsHolds s d

theorem csPremises_iff_of_prot (s : State) (hm : s.mode = .prot) : CsPremises s ↔ CsNamesCode s := by
  rw [CsPremises, hm, CsNamesCode]

theorem csPremises_iff_of_not_prot (s : State) (hm : s.mode ≠ .prot) :
    CsPremises s ↔ s.cs.base = s.cs.selector.setWidth 32 * 16 ∧ s.cs.limit = 0xFFFF ∧ s.cs.d = false := by
  unfold CsPremises
  cases h : s.mode with
  | real | v86 => exact Iff.rfl
  | prot => exact absurd h hm

/-- The descriptor that CS names is still read where only EIP changes. -/
theorem csNamesCode_withEip (s : State) (e : Word32) (h : CsNamesCode s) : CsNamesCode (s.withEip e) := by
  obtain ⟨hrpl, htable, d, hread, hkind, hholds⟩ := h
  exact ⟨hrpl, htable, d, readDescriptor_ok_withCsEip s s.cs e s.cs.selector d hread, hkind, hholds⟩

theorem csPremises_withEip (s : State) (e : Word32) (h : CsPremises s) : CsPremises (s.withEip e) := by
  by_cases hm : s.mode = .prot
  · exact (csPremises_iff_of_prot (s.withEip e) hm).2
      (csNamesCode_withEip s e ((csPremises_iff_of_prot s hm).1 h))
  · exact (csPremises_iff_of_not_prot (s.withEip e) hm).2 ((csPremises_iff_of_not_prot s hm).1 h)

/-- The far jump of Real and V86 mode makes the base 16 times the new selector and keeps limit and D (R185). -/
theorem csPremises_farReal (s : State) (sel : Word16) (off : Word32) (hm : s.mode ≠ .prot) (h : CsPremises s) :
    CsPremises (farReal sel off s) := by
  obtain ⟨-, hlimit, hd⟩ := (csPremises_iff_of_not_prot s hm).1 h
  exact (csPremises_iff_of_not_prot (farReal sel off s) hm).2 ⟨rfl, hlimit, hd⟩

/-- A loaded CS names the descriptor it was loaded from (R31, R69). -/
theorem csNamesCode_loadedCs (s : State) (x : Word16) (d : BitVec 64) (o : Word32) (htable : inTable s x = true)
    (hread : readDescriptor s x = .ok d) (hkind : descKind d = .conformingCode ∨ descKind d = .nonconformingCode) :
    CsNamesCode (s.withCsEip (loadedCs s.cpl x d) o) := by
  refine ⟨selRpl_loadedCs s.cpl x d, ?_, d, ?_, hkind, rfl, rfl, rfl, rfl⟩
  · rw [withCsEip_cs, inTable_withCsEip, inTable_loadedCs, htable]
  · refine readDescriptor_ok_withCsEip s _ o _ d ?_
    rw [withCsEip_cs, readDescriptor_loadedCs, hread]

theorem csPremises_farJump (s t : State) (w : Size) (sel : Word16) (off : Word32)
    (hjump : farJump w sel off s = .ok t) (h : CsPremises s) : CsPremises t := by
  obtain ⟨hm, rfl⟩ | ⟨hm, x, d, o, -, htable, hread, hkind, -, -, rfl⟩ := farJump_eq_ok w sel off s t hjump
  · exact csPremises_farReal s sel off hm h
  · exact (csPremises_iff_of_prot (s.withCsEip (loadedCs s.cpl x d) o) hm).2
      (csNamesCode_loadedCs s x d o htable hread hkind)

theorem csPremises_step (s t : State) (hstep : step s = .next t) (h : CsPremises s) : CsPremises t := by
  obtain ⟨e, rfl⟩ | ⟨w, sel, off, hjump⟩ := step_eq_next_cases s t hstep
  · exact csPremises_withEip s e h
  · exact csPremises_farJump s t w sel off hjump h

/-! ### The other premises (R252, items 4 and 5) -/

/-- No step writes TF (R43, R238). -/
theorem tf_step (s t : State) (hstep : step s = .next t) : t.tf = s.tf := by
  obtain ⟨hframe, -⟩ := stepChangesOnlyEipAndCs s t hstep
  exact (congrArg State.tf hframe).trans rfl

/-- Away from the end address a run makes a step and goes on from there. -/
theorem runTo_succ_of_step (e : EndAddress) (n : Nat) (s t : State) (hs : atEnd e s = false)
    (hstep : step s = .next t) : runTo e (n + 1) s = runTo e n t := by
  simp [runTo, hs, hstep]

/-- What a run meets after its first step, the run with that step meets. -/
theorem bytesMapped_step (e : EndAddress) (s t : State) (hs : atEnd e s = false) (hstep : step s = .next t)
    (h : BytesMapped e s) : BytesMapped e t := fun n a pc =>
  runTo_succ_of_step e n s t hs hstep ▸ h (n + 1) a pc

/-- Settles O52: each premise is kept by its own lemma above. -/
theorem launchPremisesKept : Obligations.LaunchPremisesKept := fun s t hstep =>
  ⟨csPremises_step s t hstep, fun e hs hlaunch =>
    { cs := csPremises_step s t hstep hlaunch.cs
      noSingleStep := (tf_step s t hstep).trans hlaunch.noSingleStep
      bytesMapped := bytesMapped_step e s t hs hstep hlaunch.bytesMapped }⟩

end Sys2Proof.Safety

/-! PROOFS. The clock tables (`70_reset_and_hazards.md` R261, R263). -/

namespace Sys2Proof.Machine

/-- Through a task gate every figure of the `ts` table is 9 more (R263). -/
theorem tsClocks_throughGate (old : OldTask) (new : NewTask) : tsClocks old new true = tsClocks old new false + 9 := by
  cases old <;> cases new <;> rfl

/-- From a 286 task every figure of the `ts` table is 2 less (R263). -/
theorem tsClocks_from286 (new : NewTask) (gate : Bool) :
    tsClocks .tss286 new gate + 2 = tsClocks .tss386 new gate := by
  cases new <;> cases gate <;> rfl

/-- Settles O60: the figures are read off the tables; the two laws hold row by row. -/
theorem taskSwitchClocks : Obligations.TaskSwitchClocks :=
  ⟨rfl, rfl, rfl, rfl, rfl, rfl, rfl, rfl, rfl, rfl, rfl, rfl, tsClocks_throughGate, tsClocks_from286, rfl, rfl⟩

end Sys2Proof.Machine
